-- ==== Sys2Proof/Word.lean ====
section
/-!
DEFINITION. The plain types that commands and state are made of: bytes, wrapping counts, run tags and versions, and the blocks that report station conditions.
-/
namespace Sys2Proof

/-- A character of a port, or a byte of a frame or of the profile image (R203: eight bits, bit 0 the least significant). -/
abbrev Byte := BitVec 8

/-- A 32-bit wrapping count (00_scope.md, Conventions: all other counters wrap at their stated width). -/
abbrev Count := BitVec 32

/-- A run tag (R196), and a CRC register (R134). -/
abbrev Word16 := BitVec 16

/-- A slot version counter (R83). -/
abbrev Version := BitVec 8

/-- The blocks that report station conditions to the Origin Unit (R91). -/
inductive ReportSource where
  | lineReceiver
  | lineTransmitter
  | tableEngine
deriving DecidableEq, Repr

end Sys2Proof
end

