-- ==== Sys2Proof/Syntax.lean ====
section
/-!
DEFINITION. The commands of the station: one constructor per row of spec/opcode_table.json. An operand is only what comes from outside the part; what a command takes from a waiting list of State is not an operand.
-/
namespace Sys2Proof

/-- The 66 events of the opcode table. Points, slots, stations and groups are numbers (WellFormed.lean gives their ranges); `dt` is the line time, in parts of c, that has passed since the line command before. -/
inductive Instr where
  /-- RESET (R193). -/
  | reset
  /-- PROFILE_HEADER_TAKEN (R186): the six header bytes. -/
  | profileHeaderTaken (header : List Byte)
  /-- PROFILE_READ_DONE (R190): the image after the header, and the levels first sampled at the completion tick (R66, R80). Bit p-1 of `levels` is point p's input: current present, contact closed. -/
  | profileReadDone (image : List Byte) (duskOn : Bool) (levels : BitVec 64)
  /-- DUSK_CHANGE (R61): the new dusk level. -/
  | duskChange (on : Bool)
  /-- DUSK_SETTLE_END (R61). -/
  | duskSettleEnd
  /-- LAMP_CURRENT_CHANGE (R64): the new current level of a lamp point. -/
  | lampCurrentChange (point : Nat) (present : Bool)
  /-- OUT_CONFIRM (R62). -/
  | outConfirm (point : Nat)
  /-- OUT_CLEAR (R62). -/
  | outClear (point : Nat)
  /-- DAYBURN_CONFIRM (R63). -/
  | dayburnConfirm (point : Nat)
  /-- DAYBURN_CLEAR (R63). -/
  | dayburnClear (point : Nat)
  /-- CYCLING_WINDOW_EXPIRY (R64). -/
  | cyclingWindowExpiry (point : Nat)
  /-- LOOP_GATE_END (R67): the rising edges that the gate in progress had not yet counted. -/
  | loopGateEnd (point : Nat) (edges : Nat)
  /-- LOOP_BASELINE_PERIOD_END (R69). -/
  | loopBaselinePeriodEnd (point : Nat)
  /-- CHATTER_WINDOW_EXPIRY (R73). -/
  | chatterWindowExpiry (point : Nat)
  /-- SIGN_BURST_END (R77). -/
  | signBurstEnd (point : Nat)
  /-- NO_HEARTBEAT (R78). -/
  | noHeartbeat (point : Nat)
  /-- SUPPLY_CONTACT_CHANGE (R80): the new contact level of a supply point. -/
  | supplyContactChange (point : Nat) (closed : Bool)
  /-- SUPPLY_LOSS_CONFIRM (R80). -/
  | supplyLossConfirm (point : Nat)
  /-- SUPPLY_RESTORE_CONFIRM (R80). -/
  | supplyRestoreConfirm (point : Nat)
  /-- CONDITION_REPORT (R84): the Origin Unit takes the oldest waiting report of a point. -/
  | conditionReport (point : Nat)
  /-- STATION_CONDITION_REPORT (R91): the Origin Unit takes the oldest waiting report of a block. -/
  | stationConditionReport (source : ReportSource)
  /-- FLAP_RELEASE (R90). -/
  | flapRelease (slot : Nat)
  /-- OWN_LINGER_END (R88). -/
  | ownLingerEnd (slot : Nat)
  /-- HOLD_BEGUN_SIGNAL (R94). -/
  | holdBegunSignal
  /-- HOLD_ENDED_SIGNAL (R94). -/
  | holdEndedSignal
  /-- OWN_ACK_DECISION (R156). -/
  | ownAckDecision
  /-- ACKNOWLEDGE_AT_ORIGIN (R161). -/
  | acknowledgeAtOrigin
  /-- WALK_STEP (R97). -/
  | walkStep
  /-- LINE_CHARACTER_HEARD (R131). -/
  | lineCharacterHeard (char : Byte) (stopFound : Bool) (dt : Nat)
  /-- ECHO_TIMEOUT (R143). -/
  | echoTimeout (dt : Nat)
  /-- RUN_CLOSE (R132). -/
  | runClose (dt : Nat)
  /-- ACCESS_MOMENT (R137). -/
  | accessMoment (dt : Nat)
  /-- CLASH_TIMER_END (R135). -/
  | clashTimerEnd
  /-- MUTE_END (R149). -/
  | muteEnd
  /-- LINE_MUTE_CLEAR_TIMER_END (R150). -/
  | lineMuteClearTimerEnd
  /-- SILENCE_DEADLINE (R113): of a peer's roster entry. -/
  | silenceDeadline (station : Nat)
  /-- OWN_UPDATE (R15). -/
  | ownUpdate
  /-- LINGER_DEADLINE_DUE (R14): of a peer record. -/
  | lingerDeadlineDue (origin point : Nat)
  /-- LINGER_EXPIRY (R26). -/
  | lingerExpiry
  /-- GRACE_DEADLINE_DUE (R14): of a group entry. -/
  | graceDeadlineDue (group : Nat)
  /-- GRACE_EXPIRY (R40). -/
  | graceExpiry
  /-- ROSTER_EVENT_SILENT (R114). -/
  | rosterEventSilent
  /-- ROSTER_EVENT_PRESENT (R114). -/
  | rosterEventPresent
  /-- RECORD_FRAME (R119). -/
  | recordFrame
  /-- ROLL_FRAME (R122). -/
  | rollFrame
  /-- ACKNOWLEDGE_FRAME (R126). -/
  | acknowledgeFrame
  /-- PAGE_BUILD (R176). -/
  | pageBuild
  /-- REQUEST_COMPLETE (R167). -/
  | requestComplete
  /-- REQUEST_GAP_TIMEOUT (R166). -/
  | requestGapTimeout
  /-- STATUS (R182). -/
  | status
  /-- VIEW (R173). -/
  | view
  /-- DUMP (R175). -/
  | dump
  /-- NEXT (R178). -/
  | next
  /-- STOP (R179). -/
  | stop
  /-- ACK (R155). -/
  | ack
  /-- REJOIN (R183). -/
  | rejoin
  /-- MALFORMED_REQUEST (R166). -/
  | malformedRequest
  /-- TRANSMITTER_REJOIN_PART (R152). -/
  | transmitterRejoinPart
  /-- TABLE_ENGINE_REJOIN_PART (R200). -/
  | tableEngineRejoinPart
  /-- REJOIN_COMPLETE (R202). -/
  | rejoinComplete
  /-- LISTENING_TIMER_END (R198). -/
  | listeningTimerEnd
  /-- READY_ASSERTED (R165). -/
  | readyAsserted
  /-- REPORT_DELIVERED (R170). -/
  | reportDelivered
  /-- DUMP_IDLE_TIMEOUT (R180). -/
  | dumpIdleTimeout
  /-- SIGN_PULSE (R76). -/
  | signPulse (point : Nat)
  /-- REQUEST_CHARACTER_TAKEN (R166). -/
  | requestCharacterTaken (char : Byte) (stopFound : Bool)
deriving DecidableEq, Repr

end Sys2Proof
end

