-- ==== Sys2Proof/Config.lean ====
section
/-!
DEFINITION. What the part fixes (limits, times in ticks, line-time resolution) and the two free values the manual leaves open. Nothing in Lean can evaluate a free value.
-/
namespace Sys2Proof.Config

/-- Places of the peer part of the CFT (R2, R3). -/
@[simp] def peerPlaces : Nat := 959

/-- TABLE-FULL clears at this peer record count or below (R24). -/
@[simp] def tableFullClear : Nat := 927

/-- Entries of the group table (R32). -/
@[simp] def groupPlaces : Nat := 128

/-- GROUP-TABLE-FULL can clear at this number of entries or fewer (R50). -/
@[simp] def groupFullClear : Nat := 120

/-- Frames of the receive queue (R107). -/
@[simp] def receivePlaces : Nat := 32

/-- Requests of the request queue (R167). -/
@[simp] def requestPlaces : Nat := 8

/-- Reports of the report queue (R168). -/
@[simp] def reportPlaces : Nat := 64

/-- The notice limit from RESET until the profile load completes (R171, R184). -/
@[simp] def startNoticeLimit : Nat := 56

/-- The dispatcher port's rate from RESET, in bit/s (R165). -/
@[simp] def startRate : Nat := 9600

/-- Ticks of 10 ms in a station second (R56). -/
@[simp] def ticksPerSecond : Nat := 100

/-- The dusk settle, 60 s (R61). -/
@[simp] def settleTicks : Nat := 6000

/-- The lamp clear time, 5 s (R62, R63). -/
@[simp] def lampClearTicks : Nat := 500

/-- The cycling window, 30 minutes (R64). -/
@[simp] def cyclingWindow : Nat := 180000

/-- The loop gate, 50 ms (R67). -/
@[simp] def gateTicks : Nat := 5

/-- The chatter window, 60 s (R72). -/
@[simp] def chatterWindow : Nat := 6000

/-- The sign burst gap, 200 ms (R76). -/
@[simp] def burstGapTicks : Nat := 20

/-- The flap window, 15 minutes (R89). -/
@[simp] def flapWindow : Nat := 90000

/-- The quiet interval, 10 minutes (R90). -/
@[simp] def quietTicks : Nat := 60000

/-- The mute timer, 60 s (R148). -/
@[simp] def muteTicks : Nat := 6000

/-- The request gap, 100 ms (R166). -/
@[simp] def requestGapTicks : Nat := 10

/-- The dump's idle time, 60 s (R180). -/
@[simp] def dumpIdleTicks : Nat := 6000

/-- The greatest age a frame carries, 2^20 - 1 s (R99, R207). -/
@[simp] def ageLimit : Nat := 1048575

/-- Line time is counted in parts of one character time c (R130: "fractions of c"). DESIGN CHOICE (log 4): 160 parts, 16 for each of the ten bit times. -/
@[simp] def lineParts : Nat := 160

/-- The gap that closes a run and the longest wait for an echo, 2c, in line time (R131, R141). -/
@[simp] def gapParts : Nat := 320

/-- FREE VALUE (log 6): the value of the free-running run-tag counter at the k-th draw (R196: "Any value from 0 to 65,535 may be drawn"). -/
opaque runTagCounter : Nat → Word16

/-- FREE VALUE (log 6): what the free-running generator of R140 gives at the k-th draw, before it is brought below the bound R140 sets. -/
opaque backoffGenerator : Nat → Nat

end Sys2Proof.Config
end

