-- ==== Sys2Proof/Machine/State.lean ====
section
/-!
DEFINITION. The state of the station as plain data, block by block (00_scope.md, Block overview), the outcomes of a command, and the state right after RESET. Times are counted from RESET without wrapping (log 5): `Nat` ticks of 10 ms, or `Nat` seconds where the manual speaks of station seconds. What the manual derives (severity, view state, held count, record counts, deadlines that are a stored time plus a window) is computed where it is read, never stored (log 17).
-/
namespace Sys2Proof.Machine

/-! ### Records -/

/-- The kinds of points and records (R4). A point of kind UNUSED has no kind here. -/
inductive Kind where
  | lamp
  | loop
  | sign
  | supply
  | station
deriving DecidableEq, Repr

/-- The conditions of every kind (R4, R213). -/
inductive Condition where
  | lampOut
  | lampCycling
  | lampDayburn
  | loopOpen
  | loopOutOfRange
  | loopStuck
  | loopChatter
  | loopDrift
  | signNoHeartbeat
  | signPower
  | signDisplayMismatch
  | signModule
  | signOther
  | supplyLoss
  | numberClash
  | groupClash
  | tableFull
  | lineMute
  | groupTableFull
deriving DecidableEq, Repr

/-- OPEN or CLEARED (R1). -/
inductive OriginState where
  | opened
  | cleared
deriving DecidableEq, Repr

/-- FRESH or STALE (R8). -/
inductive Freshness where
  | fresh
  | stale
deriving DecidableEq, Repr

/-- The derived view state (R9). -/
inductive ViewState where
  | active
  | held
  | cleared
deriving DecidableEq, Repr

/-- The key of a record (R2). -/
structure Key where
  origin : Nat
  point : Nat
deriving DecidableEq, Repr

/-- A fault record (R1). `conds` is the one condition of a point record, or the list of a STATION record. Severity is computed (R5). -/
structure Record where
  key : Key
  kind : Kind
  conds : List Condition
  state : OriginState
  flapping : Bool
  group : Nat
  parent : Option Nat
  version : Version
  raisedAt : Nat
  occurrences : Nat
  ackMark : Option Nat
  lastHeard : Option Nat
  freshness : Freshness
  clearedAt : Option Nat
deriving DecidableEq, Repr

/-- The causes of a delete (R19). -/
inductive DeleteCause where
  | linger
  | sweep
  | wipe
  | eviction
deriving DecidableEq, Repr

/-! ### Timebase -/

/-- The Timebase (R56). `wraps` counts the wraps of station seconds (log 5). -/
structure Timebase where
  tick : Nat
  seconds : Count
  wraps : Nat
deriving DecidableEq, Repr

/-! ### Profile Loader -/

/-- The station states (R192). -/
inductive StationState where
  | loading
  | halted
  | listening
  | inStep
  | mute
deriving DecidableEq, Repr

/-- The profile error codes (R190). -/
inductive ProfileError where
  | none
  | format
  | length
  | crc
  | stationNumber
  | range
  | supplyNoGroup
  | supplyOwnParent
  | supplyDuplicate
deriving DecidableEq, Repr

/-- A monitor's settings, in the manual's units (R59). -/
inductive Settings where
  | unused
  | lamp (outConfirm dayburnConfirm cycleLimit : Nat)
  | loop (sensitivity stuckLimit chatterLimit : Nat)
  | sign (heartbeatLimit : Nat)
  | supply (lossConfirm restoreConfirm : Nat)
deriving DecidableEq, Repr

/-- A point's configuration (R58): no kind is UNUSED. `settings` is what the settings set gives (R189). -/
structure PointConfig where
  kind : Option Kind
  group : Nat
  parent : Nat
  set : Nat
  settings : Settings
deriving DecidableEq, Repr

/-- The profile in force (R187, R188). Rates are in bit/s; the refresh window and the grace are in seconds. -/
structure Profile where
  station : Nat
  lineRate : Nat
  consoleRate : Nat
  window : Nat
  returnGrace : Nat
  shedThreshold : Nat
  noticeLimit : Nat
  points : List PointConfig
deriving DecidableEq, Repr

/-- How far the profile read has come (R186). `image` keeps the header's CRC. -/
inductive ReadPhase where
  | header
  | image (crc : Word16)
  | done
deriving DecidableEq, Repr

/-- The parts of a REJOIN in progress that are done (R200). -/
structure RejoinParts where
  transmitterDone : Bool
  tableDone : Bool
deriving DecidableEq, Repr

/-- The Profile Loader (chapter 9). `number` is the station number as STATUS-REPLY reports it (R191). `spiOut` holds the bytes put out on the SPI port since the memory was selected (R186). -/
structure Loader where
  state : StationState
  error : ProfileError
  profile : Option Profile
  number : Nat
  reading : ReadPhase
  spiOut : List Byte
  listenEnd : Option Nat
  rejoin : Option RejoinParts
deriving DecidableEq, Repr

/-! ### Point monitors -/

/-- The lamp monitor (R65). `sampledAt` is the last tick whose sample of the current a command has read (R57, log 28). -/
structure LampMonitor where
  current : Bool
  changedAt : Nat
  sampledAt : Nat
  cycle : List Nat
  present : List Condition
deriving DecidableEq, Repr

/-- The class of a gate, and the agreed state (R67, R68). -/
inductive GateClass where
  | low
  | high
  | vacant
  | occupied
deriving DecidableEq, Repr

/-- The loop monitor (R75). `lastClass` is the class of the gate before, while a baseline exists (R70). `agreedAt` is the time `agreed` was taken; while nothing is agreed it is the model's value (log 27), and nothing reads it. -/
structure LoopMonitor where
  gateStart : Nat
  gateCount : Nat
  gates : Nat
  lastClass : Option GateClass
  agreed : Option GateClass
  agreedAt : Nat
  sum : Nat
  eligible : Nat
  baseline : Option Nat
  reference : Option Nat
  inRangeRun : Nat
  onsets : List Nat
  present : List Condition
deriving DecidableEq, Repr

/-- A burst in progress (R76): its pulse count and the tick its gap interval started. -/
structure Burst where
  pulses : Nat
  gapStart : Nat
deriving DecidableEq, Repr

/-- What a valid burst means (R77). -/
inductive SignMeaning where
  | ok
  | fault (c : Condition)
deriving DecidableEq, Repr

/-- The sign monitor (R79). `heartbeatStart` is absent while the interval is stopped (R78). -/
structure SignMonitor where
  burst : Option Burst
  memory : Option SignMeaning
  heartbeatStart : Option Nat
  present : List Condition
deriving DecidableEq, Repr

/-- The supply monitor (R80). `sampledAt` is the last tick whose sample of the contact a command has read (R57, log 28). -/
structure SupplyMonitor where
  closed : Bool
  changedAt : Nat
  sampledAt : Nat
  present : List Condition
deriving DecidableEq, Repr

/-- The monitor behind one point: none for an UNUSED point and while waiting for configuration (R58, R81). -/
inductive Monitor where
  | off
  | lamp (m : LampMonitor)
  | loop (m : LoopMonitor)
  | sign (m : SignMonitor)
  | supply (m : SupplyMonitor)
deriving DecidableEq, Repr

/-- The field side: the shared dusk input and settle (R61), the 64 monitors and the malformed-burst count (R76). `duskSampledAt` is the last tick whose sample of the dusk input a command has read (R57, log 28). -/
structure Field where
  duskOn : Bool
  duskSampledAt : Nat
  duskChangedAt : Option Nat
  settleEnd : Option Nat
  settleEndedAt : Nat
  monitors : List Monitor
  malformedBursts : Count
deriving DecidableEq, Repr

/-! ### Origin Unit -/

/-- A monitor's report on its way to the Origin Unit (R60). -/
structure ConditionReport where
  point : Nat
  condition : Condition
  raise : Bool
deriving DecidableEq, Repr

/-- A station-condition report on its way to the Origin Unit (R91). -/
structure StationReport where
  source : ReportSource
  condition : Condition
  raise : Bool
deriving DecidableEq, Repr

/-- A hold signal on its way to the Origin Unit (R52). -/
inductive HoldSignal where
  | begun (group : Nat)
  | ended (group : Nat)
deriving DecidableEq, Repr

/-- An ACKNOWLEDGE as the Table Engine hands it to the Origin Unit (R126, R206). -/
structure AckFrame where
  sender : Nat
  tag : Word16
  point : Nat
  seen : Version
deriving DecidableEq, Repr

/-- The entry of a FULL ack slot (R157). -/
structure AckEntry where
  origin : Nat
  point : Nat
  seen : Version
  tag : Word16
deriving DecidableEq, Repr

/-- One slot of the Origin Unit (R82). `picture` is the point's condition picture, or the station condition list in slot 0. -/
structure OwnSlot where
  record : Option Record
  version : Version
  announced : Bool
  picture : List Condition
  history : List Nat
  quietEnd : Option Nat
deriving DecidableEq, Repr

/-- The Origin Unit (chapter 4) with its ack slot (chapter 7) and the work handed to it that waits. -/
structure OriginUnit where
  slots : List OwnSlot
  reportsIn : List ConditionReport
  stationIn : List StationReport
  holdIn : List HoldSignal
  acksIn : List AckFrame
  changeQueue : List Nat
  ownUpdates : List Nat
  pointer : Nat
  stepDue : Option Nat
  refreshDue : Option Nat
  slips : Count
  held : List Nat
  ackSlot : Option AckEntry
  runTag : Option Word16
  acksIgnored : Count
deriving DecidableEq, Repr

/-! ### Table Engine and Roster Unit -/

/-- The state of a group entry, with the field that state carries (R33). -/
inductive GroupState where
  | down (supervisor : Nat)
  | returning (deadline : Nat)
deriving DecidableEq, Repr

/-- A group entry (R33). -/
structure GroupEntry where
  group : Nat
  state : GroupState
deriving DecidableEq, Repr

/-- A waiting timer expiry (R11, R14), with the deadline it was made for. -/
inductive TimerClaim where
  | linger (deadline : Nat) (key : Key)
  | grace (deadline : Nat) (group : Nat)
deriving DecidableEq, Repr

/-- The Table Engine (chapters 1, 2 and R127). -/
structure TableEngine where
  cft : List Record
  groups : List GroupEntry
  timers : List TimerClaim
  refusedInserts : Count
  evictions : Count
  old : Count
  moot : Count
  tableFull : Bool
  groupTableFull : Bool
  groupClash : Bool
deriving DecidableEq, Repr

/-- The roster states of a peer (R111). -/
inductive PeerState where
  | present
  | silent
deriving DecidableEq, Repr

/-- A roster entry (R111). The run tag is present exactly when it is known. -/
structure RosterEntry where
  station : Nat
  state : PeerState
  lastHeard : Nat
  window : Nat
  tag : Option Word16
  framesHeard : Count
deriving DecidableEq, Repr

/-- A roster event waiting for the Table Engine (R114). -/
structure RosterEvent where
  station : Nat
  state : PeerState
deriving DecidableEq, Repr

/-- The Roster Unit (chapter 5). -/
structure RosterUnit where
  entries : List RosterEntry
  events : List RosterEvent
deriving DecidableEq, Repr

/-! ### Corridor line -/

/-- The frame kinds (R204). -/
inductive FrameKind where
  | roll
  | record
  | acknowledge
deriving DecidableEq, Repr

/-- A peer frame as the receive queue holds it (R106, R107). -/
structure PeerFrame where
  sender : Nat
  kind : FrameKind
  body : List Byte
deriving DecidableEq, Repr

/-- A run being gathered (R131): `bad` where a character lacked its stop bit, `echo` where it is an attempt's echo run (R133). -/
structure Run where
  chars : List Byte
  bad : Bool
  last : Nat
  echo : Bool
deriving DecidableEq, Repr

/-- The Line Receiver (chapter 6). The assembler is IDLE when no run is held. -/
structure LineReceiver where
  run : Option Run
  clock : Nat
  lastHeard : Nat
  queue : List PeerFrame
  badFrames : Count
  unknownKinds : Count
  queued : Count
  shed : Count
  lost : Count
  clashEnd : Option Nat
deriving DecidableEq, Repr

/-- What the arbiter chooses among (R139). -/
inductive SendItem where
  | change (slot : Nat)
  | ack
  | refresh (slot : Nat)
deriving DecidableEq, Repr

/-- The current send (R136, R140): failed attempts so far, and the backoff drawn for the next, in c. -/
structure CurrentSend where
  item : SendItem
  fails : Nat
  backoff : Nat
deriving DecidableEq, Repr

/-- What an attempt notes of the frame it carries (R141, R144). A ROLL notes its station part's version, if it has the part, and slot 0's version counter. -/
inductive Carried where
  | record (slot : Nat) (version : Version)
  | roll (stationPart : Option Version) (counter : Version)
  | acknowledge
deriving DecidableEq, Repr

/-- An attempt on the line (R141): the characters put out back to back from `start`, and how many have returned identical. -/
structure Attempt where
  frame : List Byte
  start : Nat
  carried : Carried
  returned : Nat
deriving DecidableEq, Repr

/-- The three states of the Line Transmitter (R136). -/
inductive TxState where
  | idle
  | waiting
  | sending (a : Attempt)
deriving DecidableEq, Repr

/-- The Line Transmitter (chapter 6). `outEnd` is the line time at which the character ends that a failed attempt was putting out (R143, log 29). -/
structure LineTransmitter where
  state : TxState
  current : Option CurrentSend
  turn : BitVec 4
  collisions : Count
  abandoned : Count
  failures : Nat
  muteEnd : Option Nat
  clearEnd : Option Nat
  awaited : Bool
  outEnd : Option Nat
deriving DecidableEq, Repr

/-! ### Dispatcher port -/

/-- The view filter (R173). -/
structure ViewFilter where
  minSeverity : Nat
  kinds : List Kind
  includeHeld : Bool
  includeCleared : Bool
  includeStale : Bool
deriving DecidableEq, Repr

/-- The sources of a dump (R175). -/
inductive DumpSource where
  | table
  | roster
  | groups
deriving DecidableEq, Repr

/-- A request as the request queue holds it (R166, R209). A malformed one keeps its type character, 0 where none arrived (R210). -/
inductive Request where
  | status
  | view (filter : ViewFilter) (watch : Bool)
  | dump (source : DumpSource)
  | next
  | stop
  | ack (origin point : Nat) (seen : Version)
  | rejoin
  | malformed (type : Byte)
deriving DecidableEq, Repr

/-- Refusal reasons (R213). -/
inductive RefusalReason where
  | malformed
  | notReady
  | busy
  | noDump
  | noRecord
  | notOpen
  | changed
  | already
  | originSilent
deriving DecidableEq, Repr

/-- Dump end reasons (R181). -/
inductive DumpEndReason where
  | complete
  | stopped
  | timedOut
  | filterChanged
  | rejoin
deriving DecidableEq, Repr

/-- The outcome an ACK-REPLY carries (R209). -/
inductive AckOutcome where
  | accepted
  | queued
deriving DecidableEq, Repr

/-- A record as notices and TABLE pages carry it (R27, R176): with its view state, and its holding group where HELD. -/
structure RecordItem where
  record : Record
  view : ViewState
  holding : Option Nat
deriving DecidableEq, Repr

/-- The group states as notices name them (R46, R213). -/
inductive GroupNoticeState where
  | up
  | down
  | returning
deriving DecidableEq, Repr

/-- A group entry as GROUPS pages carry it (R176, R209). -/
structure GroupItem where
  entry : GroupEntry
  heldCount : Nat
deriving DecidableEq, Repr

/-- The items of a page (R176). -/
inductive PageItems where
  | table (items : List RecordItem)
  | roster (items : List RosterEntry)
  | groups (items : List GroupItem)
deriving DecidableEq, Repr

/-- What a STATUS-REPLY carries (R182), in the order of its body (R209). -/
structure StatusBody where
  state : StationState
  station : Nat
  runTag : Option Word16
  tableFull : Bool
  groupTableFull : Bool
  groupClash : Bool
  error : ProfileError
  ownRecords : Nat
  peerRecords : Nat
  groupEntries : Nat
  presentPeers : Nat
  silentPeers : Nat
  failures : Nat
  counters : List Count
deriving DecidableEq, Repr

/-- A reply or a notice, as the report queue holds it (R170, R209). -/
inductive Report where
  | statusReply (body : StatusBody)
  | viewOk
  | page (items : PageItems)
  | dumpEnd (reason : DumpEndReason)
  | ackReply (origin point : Nat) (outcome : AckOutcome)
  | rejoinOk
  | refused (requestType : Byte) (reason : RefusalReason) (origin point : Nat)
  | recordChanged (item : RecordItem)
  | recordRemoved (item : RecordItem) (cause : DeleteCause)
  | group (group : Nat) (state : GroupNoticeState) (supervisor : Option Nat) (heldCount : Nat)
  | stationSilent (station lastHeard records : Nat)
  | stationBack (station staleRecords : Nat)
  | ackUnsent (origin point : Nat) (seen : Version)
  | resync
deriving DecidableEq, Repr

/-- The request assembler (R166). `gathering` holds the characters after the start byte. -/
inductive RequestAssembler where
  | idle
  | gathering (chars : List Byte) (spoiled : Bool) (last : Nat)
  | ignoring (last : Nat)
deriving DecidableEq, Repr

/-- The request service (R168): FREE, or SERVING one of the three requests that stay in service. -/
inductive Service where
  | free
  | pageBuild
  | ownAck (origin point : Nat) (seen : Version)
  | rejoin
deriving DecidableEq, Repr

/-- The cursor of a dump (R175): "start" lies before every item. -/
inductive Cursor where
  | start
  | record (key : Key)
  | station (n : Nat)
  | group (g : Nat)
deriving DecidableEq, Repr

/-- The dump engine (R175). -/
inductive DumpEngine where
  | none
  | building (source : DumpSource) (cursor : Cursor)
  | opened (source : DumpSource) (cursor : Cursor) (idleDeadline : Option Nat)
deriving DecidableEq, Repr

/-- The Dispatcher Port (chapter 8). `sent` counts the characters sent of the report at the head; `lastOut` is the character last put out. -/
structure DispatcherPort where
  rate : Nat
  assembler : RequestAssembler
  finished : List Request
  requests : List Request
  service : Service
  reports : List Report
  sent : Nat
  lastOut : Option Byte
  filter : ViewFilter
  watch : Bool
  limit : Nat
  resync : Bool
  dump : DumpEngine
  dumpEndWaiting : Bool
  dropped : Count
  discarded : Count
deriving DecidableEq, Repr

/-! ### The station -/

/-- The state of the station, and the commands waiting for it. `freeIx` counts the free values drawn (log 6). -/
structure State where
  pending : List Instr
  freeIx : Nat
  time : Timebase
  loader : Loader
  field : Field
  origin : OriginUnit
  table : TableEngine
  roster : RosterUnit
  rx : LineReceiver
  tx : LineTransmitter
  port : DispatcherPort
deriving DecidableEq, Repr

/-- The reasons a command stops the model. -/
inductive Fault where
  /-- Raised by a meaning whose command fails its well-formedness check: it names no input of the part. Safe: no such event reaches the hardware. -/
  | illFormedCommand
deriving DecidableEq, Repr

/-- The reasons a command has no meaning. -/
inductive Refusal where
  /-- Raised by an arm of exec whose command is not modelled yet. Safe. No arm raises it. -/
  | notModelled (mnemonic : String)
deriving DecidableEq, Repr

/-- An empty slot of the Origin Unit at its start values (R103). -/
def OwnSlot.start : OwnSlot :=
  { record := none, version := 0, announced := false, picture := [], history := [], quietEnd := none }

/-- The filter at RESET (R173, R184). -/
def ViewFilter.start : ViewFilter :=
  { minSeverity := 1, kinds := [.lamp, .loop, .sign, .supply, .station],
    includeHeld := true, includeCleared := false, includeStale := true }

/-- The Timebase at RESET (R56). -/
def Timebase.start : Timebase := { tick := 0, seconds := 0, wraps := 0 }

/-- What the part sends to read the profile memory (R186): the read command 03 hexadecimal and a two-byte start address of 0. -/
def profileReadCommand : List Byte := [0x03, 0x00, 0x00]

/-- The memory is selected (R186): from the release of RESET until the last byte is taken or a check of the header fails. -/
def Loader.selected (l : Loader) : Bool := l.reading ≠ .done

/-- The Profile Loader at RESET (R193); the profile read begins: the memory is selected and the read command sent (R186). -/
def Loader.start : Loader :=
  { state := .loading, error := .none, profile := none, number := 0, reading := .header,
    spiOut := profileReadCommand, listenEnd := none, rejoin := none }

/-- The field side waiting for its configuration (R58, R81). The sampled dusk level, the tick of its last sample and the last settle end are not the manual's (DESIGN CHOICE, log 8). -/
def Field.start : Field :=
  { duskOn := false, duskSampledAt := 0, duskChangedAt := none, settleEnd := none, settleEndedAt := 0,
    monitors := List.replicate 64 .off, malformedBursts := 0 }

/-- The Origin Unit at RESET (R103, R164). -/
def OriginUnit.start : OriginUnit :=
  { slots := List.replicate 65 OwnSlot.start, reportsIn := [], stationIn := [], holdIn := [], acksIn := [],
    changeQueue := [], ownUpdates := [], pointer := 0, stepDue := none, refreshDue := none, slips := 0,
    held := [], ackSlot := none, runTag := none, acksIgnored := 0 }

/-- The Table Engine at RESET (R31, R53, R128). -/
def TableEngine.start : TableEngine :=
  { cft := [], groups := [], timers := [], refusedInserts := 0, evictions := 0, old := 0, moot := 0,
    tableFull := false, groupTableFull := false, groupClash := false }

/-- The Roster Unit at RESET (R128). -/
def RosterUnit.start : RosterUnit := { entries := [], events := [] }

/-- The Line Receiver at RESET (R128, R151). The line clock's start is the model's (log 4). -/
def LineReceiver.start : LineReceiver :=
  { run := none, clock := 0, lastHeard := 0, queue := [], badFrames := 0, unknownKinds := 0,
    queued := 0, shed := 0, lost := 0, clashEnd := none }

/-- The Line Transmitter at RESET (R151). -/
def LineTransmitter.start : LineTransmitter :=
  { state := .idle, current := none, turn := 0, collisions := 0, abandoned := 0, failures := 0,
    muteEnd := none, clearEnd := none, awaited := false, outEnd := none }

/-- The Dispatcher Port at RESET (R184). -/
def DispatcherPort.start : DispatcherPort :=
  { rate := Config.startRate, assembler := .idle, finished := [], requests := [], service := .free,
    reports := [], sent := 0, lastOut := none, filter := ViewFilter.start, watch := false,
    limit := Config.startNoticeLimit, resync := false, dump := .none, dumpEndWaiting := false,
    dropped := 0, discarded := 0 }

/-- The station right after RESET: every block at its start values, LOADING, no command waiting (R193). -/
def State.reset : State :=
  { pending := [], freeIx := 0, time := .start, loader := .start, field := .start, origin := .start,
    table := .start, roster := .start, rx := .start, tx := .start, port := .start }

end Sys2Proof.Machine
end

