-- ==== Sys2Proof/Machine/Codes.lean ====
section
/-!
DEFINITION. The codes of R213, the severities of R5 and the byte layouts shared by every port: what a name is on a wire.
-/
namespace Sys2Proof.Machine

/-- Kind codes (R213). -/
def Kind.code : Kind → Nat
  | .lamp => 1
  | .loop => 2
  | .sign => 3
  | .supply => 4
  | .station => 5

/-- The kind a point record's kind code names: LAMP, LOOP, SIGN or SUPPLY (R116, R188). -/
def Kind.ofPointCode : Nat → Option Kind
  | 1 => some .lamp
  | 2 => some .loop
  | 3 => some .sign
  | 4 => some .supply
  | _ => none

/-- Condition codes (R213). -/
def Condition.code : Condition → Nat
  | .lampOut => 1
  | .lampCycling => 2
  | .lampDayburn => 3
  | .loopOpen => 4
  | .loopOutOfRange => 5
  | .loopStuck => 6
  | .loopChatter => 7
  | .loopDrift => 8
  | .signNoHeartbeat => 9
  | .signPower => 10
  | .signDisplayMismatch => 11
  | .signModule => 12
  | .signOther => 13
  | .supplyLoss => 14
  | .numberClash => 15
  | .groupClash => 16
  | .tableFull => 17
  | .lineMute => 18
  | .groupTableFull => 19

/-- The condition a code names (R213). -/
def Condition.ofCode : Nat → Option Condition
  | 1 => some .lampOut
  | 2 => some .lampCycling
  | 3 => some .lampDayburn
  | 4 => some .loopOpen
  | 5 => some .loopOutOfRange
  | 6 => some .loopStuck
  | 7 => some .loopChatter
  | 8 => some .loopDrift
  | 9 => some .signNoHeartbeat
  | 10 => some .signPower
  | 11 => some .signDisplayMismatch
  | 12 => some .signModule
  | 13 => some .signOther
  | 14 => some .supplyLoss
  | 15 => some .numberClash
  | 16 => some .groupClash
  | 17 => some .tableFull
  | 18 => some .lineMute
  | 19 => some .groupTableFull
  | _ => none

/-- The kind whose set a condition belongs to (R4). -/
def Condition.kind : Condition → Kind
  | .lampOut | .lampCycling | .lampDayburn => .lamp
  | .loopOpen | .loopOutOfRange | .loopStuck | .loopChatter | .loopDrift => .loop
  | .signNoHeartbeat | .signPower | .signDisplayMismatch | .signModule | .signOther => .sign
  | .supplyLoss => .supply
  | .numberClash | .groupClash | .tableFull | .lineMute | .groupTableFull => .station

/-- The severity of a condition (R5). -/
def Condition.severity : Condition → Nat
  | .supplyLoss | .numberClash => 4
  | .signNoHeartbeat | .signPower | .signDisplayMismatch => 3
  | .loopOpen | .loopOutOfRange => 3
  | .groupClash | .tableFull | .lineMute => 3
  | .lampOut | .loopStuck | .loopChatter | .signModule | .groupTableFull => 2
  | .lampCycling | .lampDayburn | .loopDrift | .signOther => 1

/-- The highest severity of a list of conditions (R5). -/
def severityOf (l : List Condition) : Nat := l.foldr (fun c n => max c.severity n) 0

/-- A record's severity (R5): of its condition, or the highest of its list; kept by a CLEARED record with what it kept. -/
def Record.severity (r : Record) : Nat := severityOf r.conds

/-- Station state codes (R213). -/
def StationState.code : StationState → Nat
  | .loading => 0
  | .halted => 1
  | .listening => 2
  | .inStep => 3
  | .mute => 4

/-- Profile error codes (R213). -/
def ProfileError.code : ProfileError → Nat
  | .none => 0
  | .format => 1
  | .length => 2
  | .crc => 3
  | .stationNumber => 4
  | .range => 5
  | .supplyNoGroup => 6
  | .supplyOwnParent => 7
  | .supplyDuplicate => 8

/-- Rate codes (R213): the rate in bit/s. -/
def rateOfCode : Nat → Nat
  | 1 => 9600
  | 2 => 19200
  | 3 => 38400
  | 4 => 57600
  | 5 => 115200
  | _ => 0

/-- Refusal reason codes (R213). -/
def RefusalReason.code : RefusalReason → Nat
  | .malformed => 1
  | .notReady => 2
  | .busy => 3
  | .noDump => 4
  | .noRecord => 5
  | .notOpen => 6
  | .changed => 7
  | .already => 8
  | .originSilent => 9

/-- Dump end reason codes (R213). -/
def DumpEndReason.code : DumpEndReason → Nat
  | .complete => 1
  | .stopped => 2
  | .timedOut => 3
  | .filterChanged => 4
  | .rejoin => 5

/-- Delete cause codes (R213). -/
def DeleteCause.code : DeleteCause → Nat
  | .linger => 1
  | .sweep => 2
  | .wipe => 3
  | .eviction => 4

/-- Group state codes (R213). -/
def GroupNoticeState.code : GroupNoticeState → Nat
  | .up => 0
  | .down => 1
  | .returning => 2

/-- Dump source codes (R213). -/
def DumpSource.code : DumpSource → Nat
  | .table => 1
  | .roster => 2
  | .groups => 3

/-- Frame kind codes (R204). -/
def FrameKind.code : FrameKind → Nat
  | .roll => 1
  | .record => 2
  | .acknowledge => 3

/-- The frame kind a kind character names (R204). -/
def FrameKind.ofCode : Nat → Option FrameKind
  | 1 => some .roll
  | 2 => some .record
  | 3 => some .acknowledge
  | _ => none

/-- The body lengths a kind allows (R205). -/
def FrameKind.lengthOk : FrameKind → Nat → Bool
  | .roll, n => n = 12 || (19 ≤ n && n ≤ 23)
  | .record, n => n = 16
  | .acknowledge, n => n = 5

/-- A request's type code (R209); a malformed one's is the character received (R210). -/
def Request.typeCode : Request → Byte
  | .status => 0x01
  | .view _ _ => 0x02
  | .dump _ => 0x03
  | .next => 0x04
  | .stop => 0x05
  | .ack _ _ _ => 0x06
  | .rejoin => 0x07
  | .malformed t => t

/-- The sync byte of a corridor-line frame (R204). -/
def syncByte : Byte := 0xC5

/-- The start byte of the dispatcher port's framing (R209). -/
def startByte : Byte := 0xF0

/-- A one-byte field. -/
def byte1 (n : Nat) : List Byte := [BitVec.ofNat 8 n]

/-- A two-byte field, most significant byte first (R203). -/
def byte2 (n : Nat) : List Byte := [BitVec.ofNat 8 (n / 256), BitVec.ofNat 8 n]

/-- A three-byte field, most significant byte first (R203). -/
def byte3 (n : Nat) : List Byte :=
  [BitVec.ofNat 8 (n / 65536), BitVec.ofNat 8 (n / 256), BitVec.ofNat 8 n]

/-- A four-byte field, most significant byte first (R203). -/
def byte4 (n : Nat) : List Byte :=
  [BitVec.ofNat 8 (n / 16777216), BitVec.ofNat 8 (n / 65536), BitVec.ofNat 8 (n / 256), BitVec.ofNat 8 n]

/-- The byte at a position, as a number. -/
def byteAt (l : List Byte) (i : Nat) : Nat := (l.getD i 0).toNat

/-- The two-byte field at a position, most significant byte first (R203). -/
def wordAt (l : List Byte) (i : Nat) : Nat := byteAt l i * 256 + byteAt l (i + 1)

/-- The three-byte field at a position, most significant byte first (R203). -/
def tripleAt (l : List Byte) (i : Nat) : Nat := wordAt l i * 256 + byteAt l (i + 2)

/-- One bit of the CRC (R134): the top bit and the data bit combined, the shift, and the generator where they combined to 1. -/
def crcBit (reg : Word16) (bit : Bool) : Word16 :=
  if reg.getMsbD 0 != bit then (reg <<< 1) ^^^ 0x1021#16 else reg <<< 1

/-- One byte of the CRC, most significant bit first (R134). -/
def crcByte (reg : Word16) (b : Byte) : Word16 :=
  [0, 1, 2, 3, 4, 5, 6, 7].foldl (fun r i => crcBit r (b.getMsbD i)) reg

/-- The CRC over some bytes (R134, R191): the register starts at all ones and is not inverted. -/
def crc16 (l : List Byte) : Word16 := l.foldl crcByte 0xFFFF#16

/-- The checksum of the dispatcher port's framing (R209): the two's complement of the 8-bit sum. -/
def checksum (l : List Byte) : Byte := -(l.foldl (· + ·) 0)

end Sys2Proof.Machine
end

