-- ==== Sys2Proof/WellFormed.lean ====
section
/-!
DEFINITION. Which commands name something the part has. A command that fails its check is none of the part's events; every meaning answers it with one fault.
-/
namespace Sys2Proof

/-- A point of the field side is numbered 1 to 64 (00_scope.md, Terms; R58). -/
def pointOk (p : Nat) : Bool := decide (1 ≤ p) && decide (p ≤ 64)

/-- A slot is numbered 0 to 64 (R82). -/
def slotOk (k : Nat) : Bool := decide (k ≤ 64)

/-- A station is numbered 1 to 250 (00_scope.md, Terms). -/
def stationOk (n : Nat) : Bool := decide (1 ≤ n) && decide (n ≤ 250)

/-- A group that can have an entry is numbered 1 to 511 (R32). -/
def groupOk (g : Nat) : Bool := decide (1 ≤ g) && decide (g ≤ 511)

/-- The header is six bytes (R186). -/
def headerOk (h : List Byte) : Bool := decide (h.length = 6)

/-- The image after the header is exactly the 649 bytes whose length check has passed (R186, R211). -/
def imageOk (b : List Byte) : Bool := decide (b.length = 649)

/-- The check of each command's operands. -/
def Instr.wellFormed : Instr → Bool
  | .reset => true
  | .profileHeaderTaken h => headerOk h
  | .profileReadDone b _ _ => imageOk b
  | .duskChange _ => true
  | .duskSettleEnd => true
  | .lampCurrentChange p _ => pointOk p
  | .outConfirm p => pointOk p
  | .outClear p => pointOk p
  | .dayburnConfirm p => pointOk p
  | .dayburnClear p => pointOk p
  | .cyclingWindowExpiry p => pointOk p
  | .loopGateEnd p _ => pointOk p
  | .loopBaselinePeriodEnd p => pointOk p
  | .chatterWindowExpiry p => pointOk p
  | .signBurstEnd p => pointOk p
  | .noHeartbeat p => pointOk p
  | .supplyContactChange p _ => pointOk p
  | .supplyLossConfirm p => pointOk p
  | .supplyRestoreConfirm p => pointOk p
  | .conditionReport p => pointOk p
  | .stationConditionReport _ => true
  | .flapRelease k => pointOk k
  | .ownLingerEnd k => slotOk k
  | .holdBegunSignal => true
  | .holdEndedSignal => true
  | .ownAckDecision => true
  | .acknowledgeAtOrigin => true
  | .walkStep => true
  | .lineCharacterHeard _ _ _ => true
  | .echoTimeout _ => true
  | .runClose _ => true
  | .accessMoment _ => true
  | .clashTimerEnd => true
  | .muteEnd => true
  | .lineMuteClearTimerEnd => true
  | .silenceDeadline n => stationOk n
  | .ownUpdate => true
  | .lingerDeadlineDue o p => stationOk o && slotOk p
  | .lingerExpiry => true
  | .graceDeadlineDue g => groupOk g
  | .graceExpiry => true
  | .rosterEventSilent => true
  | .rosterEventPresent => true
  | .recordFrame => true
  | .rollFrame => true
  | .acknowledgeFrame => true
  | .pageBuild => true
  | .requestComplete => true
  | .requestGapTimeout => true
  | .status => true
  | .view => true
  | .dump => true
  | .next => true
  | .stop => true
  | .ack => true
  | .rejoin => true
  | .malformedRequest => true
  | .transmitterRejoinPart => true
  | .tableEngineRejoinPart => true
  | .rejoinComplete => true
  | .listeningTimerEnd => true
  | .readyAsserted => true
  | .reportDelivered => true
  | .dumpIdleTimeout => true
  | .signPulse p => pointOk p
  | .requestCharacterTaken _ _ => true

end Sys2Proof
end

