-- ==== Sys2Proof/Machine/Ops.lean ====
section
/-!
DEFINITION. The shared operations over the state: time, settings in force, ordered lists, slots, reports between blocks, the view filter and the notice gate, and the waking of the transmitter.
-/
namespace Sys2Proof.Machine

/-! ### Answering -/

/-- The three outcomes, for this station. -/
abbrev Outcome := Host.Outcome State Fault Refusal

/-- A meaning's answer: its next state where the command names something the part has, the one fault otherwise (log 16). -/
def answer (ok : Bool) (t : State) : Outcome := if ok then .next t else .fault .illFormedCommand

/-! ### Time (R56) -/

/-- Station seconds since RESET, unwrapped (log 5). -/
def Timebase.nowSec (t : Timebase) : Nat := t.wraps * 2 ^ 32 + t.seconds.toNat

/-- Ticks since RESET, unwrapped (log 5). -/
def Timebase.now (t : Timebase) : Nat := t.nowSec * Config.ticksPerSecond + t.tick

/-- One tick passes (R56): the tick count runs 0 to 99, then station seconds rises by one and wraps at 32 bits. -/
def Timebase.advance (t : Timebase) : Timebase :=
  if t.tick + 1 < Config.ticksPerSecond then { t with tick := t.tick + 1 }
  else { tick := 0, seconds := t.seconds + 1,
         wraps := if t.seconds + 1 = 0 then t.wraps + 1 else t.wraps }

/-- "Now" in ticks. -/
def State.now (s : State) : Nat := s.time.now

/-- "Now" in station seconds. -/
def State.nowSec (s : State) : Nat := s.time.nowSec

/-- A timer that ends at a tick or second has ended. -/
def due (t : Option Nat) (now : Nat) : Bool :=
  match t with
  | some e => decide (e ≤ now)
  | none => false

/-! ### Settings in force (R187, R188) -/

/-- The configuration of a point the profile gives nothing for. -/
def PointConfig.unused : PointConfig :=
  { kind := none, group := 0, parent := 0, set := 0, settings := .unused }

/-- This station's number; 0, which is no station, while no profile is in force. -/
def State.own (s : State) : Nat :=
  match s.loader.profile with
  | some p => p.station
  | none => 0

/-- This station's refresh window W, in seconds. -/
def State.window (s : State) : Nat :=
  match s.loader.profile with
  | some p => p.window
  | none => 0

/-- This station's return grace, in seconds. -/
def State.returnGrace (s : State) : Nat :=
  match s.loader.profile with
  | some p => p.returnGrace
  | none => 0

/-- The receive shed threshold. -/
def State.shedThreshold (s : State) : Nat :=
  match s.loader.profile with
  | some p => p.shedThreshold
  | none => 0

/-- The configuration of point p (R58). -/
def Profile.point (f : Profile) (p : Nat) : PointConfig :=
  if p = 0 then .unused else f.points.getD (p - 1) .unused

/-- The configuration of point p in force. -/
def State.pointConfig (s : State) (p : Nat) : PointConfig :=
  match s.loader.profile with
  | some f => f.point p
  | none => .unused

/-- The groups of the SUPPLY points (R51, R190). -/
def Profile.supplyGroups (f : Profile) : List Nat :=
  (f.points.filter (fun c => decide (c.kind = some .supply))).map (·.group)

/-- The groups this station supervises (R51). -/
def State.supervised (s : State) : List Nat :=
  match s.loader.profile with
  | some f => f.supplyGroups
  | none => []

/-- A profile is in force: the monitors work and the line is read (R58, R130), in LISTENING, IN-STEP and MUTE. -/
def State.running (s : State) : Bool := s.loader.profile.isSome

/-- The REJOIN is in progress (R199). -/
def State.rejoining (s : State) : Bool := s.loader.rejoin.isSome

/-! ### Ordered lists -/

/-- Insert into an ascending list without repeats. -/
def insertNat (n : Nat) : List Nat → List Nat
  | [] => [n]
  | m :: l => if n < m then n :: m :: l else if n = m then m :: l else m :: insertNat n l

/-- The members of two lists, ascending and without repeats. -/
def mergeNat (l m : List Nat) : List Nat := l.foldr insertNat m

/-- The order of keys: by origin, then by point (R2). -/
def Key.lt (a b : Key) : Bool :=
  decide (a.origin < b.origin) || (decide (a.origin = b.origin) && decide (a.point < b.point))

/-- Insert a key into an ascending list without repeats (R2). -/
def insertKey (k : Key) : List Key → List Key
  | [] => [k]
  | m :: l => if k.lt m then k :: m :: l else if k = m then m :: l else m :: insertKey k l

/-- A condition joins a set kept in ascending code order (R60). -/
def condJoin (c : Condition) : List Condition → List Condition
  | [] => [c]
  | d :: l => if c.code < d.code then c :: d :: l else if c = d then d :: l else d :: condJoin c l

/-- A condition leaves a set (R60). -/
def condLeave (c : Condition) (l : List Condition) : List Condition := l.filter (fun d => decide (d ≠ c))

/-- A newest-last list of at most `cap` times: when it is full the oldest leaves first (R64, R72, R89). -/
def pushTime (cap now : Nat) (l : List Nat) : List Nat :=
  (if cap ≤ l.length then l.drop 1 else l) ++ [now]

/-- The list holds `cap` times and the oldest was taken less than `window` before now (R64, R73, R89). -/
def crowded (cap window now : Nat) (l : List Nat) : Bool :=
  match l with
  | [] => false
  | oldest :: _ => decide (l.length = cap) && decide (now - oldest < window)

/-! ### Origin Unit: slots and reports handed to it -/

/-- A slot of the Origin Unit. -/
def OriginUnit.slot (o : OriginUnit) (k : Nat) : OwnSlot := o.slots.getD k .start

/-- Write a slot. -/
def OriginUnit.setSlot (o : OriginUnit) (k : Nat) (sl : OwnSlot) : OriginUnit :=
  { o with slots := o.slots.set k sl }

/-- The reports of one monitor event: every raise in ascending code, then every clear in ascending code (R60). Both sets are ascending. -/
def reportsOf (p : Nat) (before after : List Condition) : List ConditionReport :=
  (after.filter (fun c => !before.contains c)).map (fun c => ⟨p, c, true⟩) ++
  (before.filter (fun c => !after.contains c)).map (fun c => ⟨p, c, false⟩)

/-- Hand monitor reports to the Origin Unit (R60). -/
def OriginUnit.handReports (o : OriginUnit) (l : List ConditionReport) : OriginUnit :=
  { o with reportsIn := o.reportsIn ++ l }

/-- Hand a station-condition report to the Origin Unit (R91). -/
def OriginUnit.handStation (o : OriginUnit) (r : StationReport) : OriginUnit :=
  { o with stationIn := o.stationIn ++ [r] }

/-- A deferred record (R94): an own LAMP, LOOP or SIGN record whose group is held. -/
def OriginUnit.deferred (o : OriginUnit) (r : Record) : Bool :=
  (r.kind = .lamp || r.kind = .loop || r.kind = .sign) && r.group ≠ 0 && o.held.contains r.group

/-- The class of a slot's change entries (R95): urgent for slot 0 and for SUPPLY points. -/
def State.urgent (s : State) (k : Nat) : Bool := k = 0 || (s.pointConfig k).kind = some .supply

/-- A change entry joins (R95): an urgent one behind the last urgent entry, an ordinary one at the tail. -/
def State.enqueue (s : State) (k : Nat) (q : List Nat) : List Nat :=
  if s.urgent k then q.filter s.urgent ++ [k] ++ q.filter (fun j => !s.urgent j) else q ++ [k]

/-- The station states in which changes are queued (R96), outside a REJOIN (R199). -/
def State.queues (s : State) : Bool :=
  (s.loader.state = .inStep || s.loader.state = .mute) && !s.rejoining

/-- A slot's own update is offered; one that waits is brought up to date in its place (R11, R92). -/
def OriginUnit.offer (o : OriginUnit) (k : Nat) : OriginUnit :=
  if o.ownUpdates.contains k then o else { o with ownUpdates := o.ownUpdates ++ [k] }

/-! ### Line Transmitter -/

/-- Work is pending for the transmitter (R136). -/
def State.workPending (s : State) : Bool :=
  !s.origin.changeQueue.isEmpty || s.origin.ackSlot.isSome || s.origin.refreshDue.isSome

/-- In IN-STEP, an IDLE transmitter with work pending becomes WAITING (R136). -/
def State.wake (s : State) : State :=
  if s.loader.state = .inStep && s.tx.state = .idle && s.workPending
  then { s with tx := { s.tx with state := .waiting } } else s

/-- The current send ends without a result (R139): WAITING if work is pending, IDLE otherwise. -/
def State.endSend (s : State) : State :=
  State.wake { s with tx := { s.tx with state := .idle, current := none } }

/-! ### Views (R9) -/

/-- The hold group of a record (R9). -/
def Record.holdGroup (r : Record) : Option Nat :=
  match r.kind with
  | .lamp | .loop | .sign => if r.group = 0 then none else some r.group
  | .supply => r.parent
  | .station => none

/-- The group table has an entry for a group. -/
def hasEntry (groups : List GroupEntry) (g : Nat) : Bool := groups.any (fun e => decide (e.group = g))

/-- The entry of a group. -/
def findEntry (groups : List GroupEntry) (g : Nat) : Option GroupEntry :=
  groups.find? (fun e => decide (e.group = g))

/-- The record's hold group has an entry. -/
def Record.behind (r : Record) (groups : List GroupEntry) : Bool :=
  match r.holdGroup with
  | some g => hasEntry groups g
  | none => false

/-- A record's view state (R9). -/
def Record.view (r : Record) (groups : List GroupEntry) : ViewState :=
  match r.state with
  | .cleared => .cleared
  | .opened => if r.behind groups then .held else .active

/-- A record as notices and pages carry it (R9, R27). -/
def Record.item (r : Record) (groups : List GroupEntry) : RecordItem :=
  { record := r, view := r.view groups,
    holding := if r.view groups = .held then r.holdGroup else none }

/-- The held count of a group (R33): the OPEN records whose hold group it is. -/
def heldCount (cft : List Record) (g : Nat) : Nat :=
  (cft.filter (fun r => decide (r.state = .opened) && decide (r.holdGroup = some g))).length

/-! ### The view filter and the notice gate (R171 to R174) -/

/-- A record passes the view filter (R174). -/
def ViewFilter.passes (f : ViewFilter) (kind : Kind) (severity : Nat) (v : ViewState) (fr : Freshness) : Bool :=
  decide (f.minSeverity ≤ severity) && f.kinds.contains kind &&
  (v ≠ .held || f.includeHeld) && (v ≠ .cleared || f.includeCleared) && (fr ≠ .stale || f.includeStale)

/-- An item passes the view filter as it stands. -/
def ViewFilter.passesItem (f : ViewFilter) (i : RecordItem) : Bool :=
  f.passes i.record.kind i.record.severity i.view i.record.freshness

/-- What the Table Engine hands with a RECORD-CHANGED (R171): severity, view state and freshness at the start of the claim. -/
structure Seen where
  severity : Nat
  view : ViewState
  freshness : Freshness
deriving DecidableEq, Repr

/-- A notice as it reaches the gate: `before` is what stood at the start of the claim, for a RECORD-CHANGED of a record the claim did not insert. -/
structure Notice where
  report : Report
  before : Option Seen
deriving DecidableEq, Repr

/-- The terminal wants the notice (R171), while watch is on. -/
def ViewFilter.wants (f : ViewFilter) (n : Notice) : Bool :=
  match n.report with
  | .recordChanged i =>
    f.passesItem i ||
      (match n.before with
       | some b => f.passes i.record.kind b.severity b.view b.freshness
       | none => false)
  | .recordRemoved i _ => f.passesItem i
  | _ => true

/-- A report joins the tail of the report queue (R170). -/
def DispatcherPort.post (p : DispatcherPort) (r : Report) : DispatcherPort :=
  { p with reports := p.reports ++ [r] }

/-- The notice gate (R171): set aside, posted below the notice limit, or dropped. -/
def DispatcherPort.gate (p : DispatcherPort) (n : Notice) : DispatcherPort :=
  if p.watch && p.filter.wants n then
    if p.reports.length < p.limit then p.post n.report
    else { p with dropped := p.dropped + 1, resync := true }
  else p

/-- Notices handed over in order (R30). -/
def DispatcherPort.gateAll (p : DispatcherPort) (l : List Notice) : DispatcherPort := l.foldl .gate p

end Sys2Proof.Machine
end

