-- ==== Sys2Proof/Machine/Operands.lean ====
section
/-!
DEFINITION. The forms of everything the part reads and sends (chapter 10): corridor-line frames and their bodies with the content check, requests, reports, and the profile image with its checks.
-/
namespace Sys2Proof.Machine

/-! ### Corridor-line frames (R132, R204 to R208) -/

/-- How a closed run is judged (R132). -/
inductive RunJudgement where
  | bad
  | unknownKind
  | valid (frame : PeerFrame)
deriving DecidableEq, Repr

/-- The judgement of a run (R132): the first check that fails decides. `lacked` says that a character lacked its stop bit. -/
def judgeRun (lacked : Bool) (chars : List Byte) : RunJudgement :=
  let length := byteAt chars 3
  if lacked then .bad
  else if chars.length < 6 then .bad
  else if chars.head? ≠ some syncByte then .bad
  else if 56 < length then .bad
  else if chars.length ≠ 6 + length then .bad
  else if (crc16 ((chars.drop 1).take (3 + length))).toNat ≠ wordAt chars (4 + length) then .bad
  else if !stationOk (byteAt chars 1) then .bad
  else
    match FrameKind.ofCode (byteAt chars 2) with
    | none => .unknownKind
    | some k =>
      if k.lengthOk length then .valid { sender := byteAt chars 1, kind := k, body := (chars.drop 4).take length }
      else .bad

/-- The characters of a frame (R141, R204): sync, sender, kind, body length, body, CRC. -/
def frameChars (sender : Nat) (kind : FrameKind) (body : List Byte) : List Byte :=
  let covered := byte1 sender ++ byte1 kind.code ++ byte1 body.length ++ body
  syncByte :: covered ++ byte2 (crc16 covered).toNat

/-- What a RECORD or a ROLL's station part announces of a record (R206). A ROLL's part carries no occurrences (R6). -/
structure Announcement where
  point : Nat
  kind : Kind
  conds : List Condition
  state : OriginState
  flapping : Bool
  group : Nat
  parent : Option Nat
  version : Version
  age : Nat
  occurrences : Option Nat
  ack : Option Nat
deriving DecidableEq, Repr

/-- A RECORD body as read (R206). -/
structure RecordBody where
  tag : Word16
  refresh : Bool
  ann : Announcement
deriving DecidableEq, Repr

/-- A ROLL body as read (R206). -/
structure RollBody where
  tag : Word16
  window : Nat
  openSet : List Nat
  part : Option Announcement
deriving DecidableEq, Repr

/-- An ACKNOWLEDGE body as read (R206). -/
structure AckBody where
  tag : Word16
  origin : Nat
  point : Nat
  seen : Version
deriving DecidableEq, Repr

/-- Bit i of the byte at a position. -/
def bitAt (l : List Byte) (pos i : Nat) : Bool := (l.getD pos 0).getLsbD i

/-- The origin state a flags bit 0 gives (R206). -/
def stateOfBit (b : Bool) : OriginState := if b then .cleared else .opened

/-- An ack station: 0 is absent, and an announcement that is CLEARED is written without a mark (R153, R208). -/
def ackOf (st : OriginState) (n : Nat) : Option Nat :=
  if n = 0 || st = .cleared then none else some n

/-- A received age is read as at most the limit (R207). -/
def ageOf (n : Nat) : Nat := min n Config.ageLimit

/-- The group fields of a RECORD pass (R116, R208): 0-511, from 1 for SUPPLY, and a parent on SUPPLY only. -/
def groupsOk (k : Kind) (group parent : Nat) : Bool :=
  decide (group ≤ 511) && (k ≠ .supply || decide (1 ≤ group)) &&
  (parent = 0 || (k = .supply && decide (parent ≤ 511)))

/-- A RECORD body, where it passes the content check (R116, R206, R208). -/
def readRecord (b : List Byte) : Option RecordBody :=
  match Kind.ofPointCode (byteAt b 3), Condition.ofCode (byteAt b 4) with
  | some k, some c =>
    let st := stateOfBit (bitAt b 5 0)
    if pointOk (byteAt b 2) && c.kind = k && groupsOk k (wordAt b 7) (wordAt b 9) &&
        decide (1 ≤ byteAt b 14) && decide (byteAt b 15 ≤ 250) then
      some
        { tag := BitVec.ofNat 16 (wordAt b 0)
          refresh := bitAt b 5 2
          ann :=
            { point := byteAt b 2, kind := k, conds := [c], state := st, flapping := bitAt b 5 1,
              group := wordAt b 7, parent := if wordAt b 9 = 0 then none else some (wordAt b 9),
              version := BitVec.ofNat 8 (byteAt b 6), age := ageOf (tripleAt b 11),
              occurrences := some (byteAt b 14), ack := ackOf st (byteAt b 15) } }
    else none
  | _, _ => none

/-- The points of a ROLL's open set (R206): body byte 4 + k, bit b, stands for point 8k + b + 1. -/
def readOpenSet (b : List Byte) : List Nat :=
  ((List.range 64).map (· + 1)).filter (fun p => bitAt b (4 + (p - 1) / 8) ((p - 1) % 8))

/-- A condition list of a station part (R208): station conditions, none twice, stored in ascending code order. -/
def readStationList : List Byte → Option (List Condition)
  | [] => some []
  | x :: l =>
    match Condition.ofCode x.toNat, readStationList l with
    | some c, some cs => if c.kind = .station && !cs.contains c then some (condJoin c cs) else none
    | _, _ => none

/-- The station part of a ROLL (R206): absent at body length 12; `none` outside says that the content check fails. -/
def readStationPart (b : List Byte) : Option (Option Announcement) :=
  if b.length ≤ 12 then some none
  else
    let st := stateOfBit (bitAt b 13 0)
    match readStationList (b.drop 18) with
    | some (c :: cs) =>
      if decide (cs.length ≤ 4) && decide (byteAt b 17 ≤ 250) then
        some (some
          { point := 0, kind := .station, conds := c :: cs, state := st, flapping := false,
            group := 0, parent := none, version := BitVec.ofNat 8 (byteAt b 12),
            age := ageOf (tripleAt b 14), occurrences := none, ack := ackOf st (byteAt b 17) })
      else none
    | _ => none

/-- A ROLL body, where it passes the content check (R116, R206, R208). -/
def readRoll (b : List Byte) : Option RollBody :=
  if decide (60 ≤ wordAt b 2) && decide (wordAt b 2 ≤ 600) then
    match readStationPart b with
    | some part =>
      some { tag := BitVec.ofNat 16 (wordAt b 0), window := wordAt b 2, openSet := readOpenSet b, part := part }
    | none => none
  else none

/-- An ACKNOWLEDGE body, where it passes the content check (R116, R206). -/
def readAcknowledge (b : List Byte) : Option AckBody :=
  if stationOk (byteAt b 2) && slotOk (byteAt b 3) then
    some { tag := BitVec.ofNat 16 (wordAt b 0), origin := byteAt b 2, point := byteAt b 3,
           seen := BitVec.ofNat 8 (byteAt b 4) }
  else none

/-- The frame only repeats what its origin announces anyway, and is shed under pressure (R108, R205): a REFRESH RECORD, or a ROLL without a station part. -/
def PeerFrame.repeats (f : PeerFrame) : Bool :=
  match f.kind with
  | .record => bitAt f.body 5 2
  | .roll => f.body.length = 12
  | .acknowledge => false

/-- The byte of some flags, bit 0 first. -/
def flagsByte (l : List Bool) : Byte :=
  BitVec.ofNat 8 (l.foldr (fun b n => b.toNat + 2 * n) 0)

/-- A RECORD body as sent (R99, R206). -/
def writeRecord (tag : Word16) (r : Record) (refresh : Bool) (age : Nat) : List Byte :=
  byte2 tag.toNat ++ byte1 r.key.point ++ byte1 r.kind.code ++
  byte1 (r.conds.headD .lampOut).code ++
  [flagsByte [r.state = .cleared, r.flapping, refresh]] ++ [r.version] ++
  byte2 r.group ++ byte2 (r.parent.getD 0) ++ byte3 age ++ byte1 r.occurrences ++
  byte1 (r.ackMark.getD 0)

/-- The eight bytes of an open set (R206). -/
def writeOpenSet (set : List Nat) : List Byte :=
  (List.range 8).map (fun k => flagsByte ((List.range 8).map (fun b => set.contains (8 * k + b + 1))))

/-- A ROLL body as sent (R100, R206): `part` is slot 0's record and its age. -/
def writeRoll (tag : Word16) (window : Nat) (set : List Nat) (part : Option (Record × Nat)) : List Byte :=
  byte2 tag.toNat ++ byte2 window ++ writeOpenSet set ++
  match part with
  | none => []
  | some (r, age) =>
    [r.version] ++ [flagsByte [r.state = .cleared]] ++ byte3 age ++ byte1 (r.ackMark.getD 0) ++
    r.conds.map (fun c => BitVec.ofNat 8 c.code)

/-- An ACKNOWLEDGE body as sent (R141, R206). -/
def writeAcknowledge (a : AckEntry) : List Byte :=
  byte2 a.tag.toNat ++ byte1 a.origin ++ byte1 a.point ++ [a.seen]

/-! ### Requests (R166, R209, R210) -/

/-- The kinds a VIEW names, in code order (R209). -/
def kindsOfBits (b : Byte) : List Kind :=
  [(0, Kind.lamp), (1, .loop), (2, .sign), (3, .supply), (4, .station)].filterMap
    (fun x => if b.getLsbD x.1 then some x.2 else none)

/-- The dump source a code names (R213). -/
def DumpSource.ofCode : Nat → Option DumpSource
  | 1 => some .table
  | 2 => some .roster
  | 3 => some .groups
  | _ => none

/-- A request whose framing is sound, by its type and body (R209, R210); `none` where it is malformed. -/
def readRequest (type : Nat) (body : List Byte) : Option Request :=
  match type, body with
  | 1, [] => some .status
  | 2, [sev, kinds, opts] =>
    if decide (1 ≤ sev.toNat) && decide (sev.toNat ≤ 4) && decide (kinds.toNat < 32) && decide (opts.toNat < 16) then
      some (.view { minSeverity := sev.toNat, kinds := kindsOfBits kinds, includeHeld := opts.getLsbD 0,
                    includeCleared := opts.getLsbD 1, includeStale := opts.getLsbD 2 } (opts.getLsbD 3))
    else none
  | 3, [src] => (DumpSource.ofCode src.toNat).map .dump
  | 4, [] => some .next
  | 5, [] => some .stop
  | 6, [origin, point, seen] => some (.ack origin.toNat point.toNat seen)
  | 7, [] => some .rejoin
  | _, _ => none

/-- The judgement of a request whose checksum character has arrived (R166): `chars` are the characters after the start byte. -/
def judgeRequest (spoiled : Bool) (chars : List Byte) : Request :=
  let type := chars.headD 0
  if spoiled || decide (chars.getLast? ≠ some (checksum chars.dropLast)) then .malformed type
  else
    match readRequest type.toNat ((chars.drop 2).dropLast) with
    | some r => r
    | none => .malformed type

/-! ### Reports (R209) -/

/-- A view state's two bits in a record item (R209). -/
def ViewState.bits : ViewState → List Bool
  | .active => [false, false]
  | .held => [true, false]
  | .cleared => [false, true]

/-- The condition byte of a record item (R209): the code, or the list's bits for a STATION record. -/
def conditionByte (r : Record) : Byte :=
  if r.kind = .station then
    flagsByte [r.conds.contains .numberClash, r.conds.contains .groupClash, r.conds.contains .tableFull,
               r.conds.contains .lineMute, r.conds.contains .groupTableFull]
  else BitVec.ofNat 8 ((r.conds.headD .lampOut).code)

/-- A record item, 27 bytes (R209). -/
def RecordItem.bytes (i : RecordItem) : List Byte :=
  let r := i.record
  byte1 r.key.origin ++ byte1 r.key.point ++ byte1 r.kind.code ++ [conditionByte r] ++
  [flagsByte ([decide (r.state = .cleared), r.flapping] ++ i.view.bits ++
    [decide (r.freshness = .stale), r.lastHeard.isSome, r.clearedAt.isSome])] ++
  byte1 r.severity ++ [r.version] ++ byte2 r.group ++ byte2 (r.parent.getD 0) ++ byte2 (i.holding.getD 0) ++
  byte4 r.raisedAt ++ byte1 r.occurrences ++ byte1 (r.ackMark.getD 0) ++ byte4 (r.lastHeard.getD 0) ++
  byte4 (r.clearedAt.getD 0)

/-- A roster item, 15 bytes (R209). -/
def RosterEntry.bytes (e : RosterEntry) : List Byte :=
  byte1 e.station ++ byte1 (if e.state = .present then 1 else 2) ++ [flagsByte [e.tag.isSome]] ++
  byte2 (e.tag.getD 0).toNat ++ byte4 e.lastHeard ++ byte2 e.window ++ byte4 e.framesHeard.toNat

/-- The supervisor of an entry, where it has one (R33). -/
def GroupState.supervisor : GroupState → Option Nat
  | .down s => some s
  | .returning _ => none

/-- The grace deadline of an entry, where it has one (R33). -/
def GroupState.deadline : GroupState → Option Nat
  | .down _ => none
  | .returning d => some d

/-- An entry's state as notices name it (R46). -/
def GroupState.notice : GroupState → GroupNoticeState
  | .down _ => .down
  | .returning _ => .returning

/-- A group item, 10 bytes (R209). -/
def GroupItem.bytes (i : GroupItem) : List Byte :=
  byte2 i.entry.group ++ byte1 i.entry.state.notice.code ++ byte1 (i.entry.state.supervisor.getD 0) ++
  byte4 (i.entry.state.deadline.getD 0) ++ byte2 i.heldCount

/-- The source of a page's items. -/
def PageItems.source : PageItems → DumpSource
  | .table _ => .table
  | .roster _ => .roster
  | .groups _ => .groups

/-- The number of a page's items. -/
def PageItems.count : PageItems → Nat
  | .table l => l.length
  | .roster l => l.length
  | .groups l => l.length

/-- A page's items, in order. -/
def PageItems.bytes : PageItems → List Byte
  | .table l => l.flatMap RecordItem.bytes
  | .roster l => l.flatMap RosterEntry.bytes
  | .groups l => l.flatMap GroupItem.bytes

/-- The STATUS-REPLY body, 77 bytes (R209). -/
def StatusBody.bytes (b : StatusBody) : List Byte :=
  byte1 b.state.code ++ byte1 b.station ++
  [flagsByte [b.runTag.isSome, b.tableFull, b.groupTableFull, b.groupClash]] ++
  byte2 (b.runTag.getD 0).toNat ++ byte1 b.error.code ++ byte1 b.ownRecords ++ byte2 b.peerRecords ++
  byte1 b.groupEntries ++ byte1 b.presentPeers ++ byte1 b.silentPeers ++ byte1 b.failures ++
  b.counters.flatMap (fun c => byte4 c.toNat)

/-- A report's type code (R209). -/
def Report.typeCode : Report → Byte
  | .statusReply _ => 0x81
  | .viewOk => 0x82
  | .page _ => 0x83
  | .dumpEnd _ => 0x84
  | .ackReply _ _ _ => 0x85
  | .rejoinOk => 0x86
  | .refused _ _ _ _ => 0x87
  | .recordChanged _ => 0xC1
  | .recordRemoved _ _ => 0xC2
  | .group _ _ _ _ => 0xC3
  | .stationSilent _ _ _ => 0xC4
  | .stationBack _ _ => 0xC5
  | .ackUnsent _ _ _ => 0xC6
  | .resync => 0xC7

/-- A report's body (R209). -/
def Report.body : Report → List Byte
  | .statusReply b => b.bytes
  | .viewOk => []
  | .page items => byte1 items.source.code ++ byte1 items.count ++ items.bytes
  | .dumpEnd r => byte1 r.code
  | .ackReply o p out => byte1 o ++ byte1 p ++ byte1 (if out = .accepted then 1 else 2)
  | .rejoinOk => []
  | .refused t r o p => [t] ++ byte1 r.code ++ byte1 o ++ byte1 p
  | .recordChanged i => i.bytes
  | .recordRemoved i c => i.bytes ++ byte1 c.code
  | .group g st sup held => byte2 g ++ byte1 st.code ++ byte1 (sup.getD 0) ++ byte2 held
  | .stationSilent n heard records => byte1 n ++ byte4 heard ++ byte2 records
  | .stationBack n staleRecords => byte1 n ++ byte2 staleRecords
  | .ackUnsent o p v => byte1 o ++ byte1 p ++ [v]
  | .resync => []

/-- A report's characters (R209): start, type, body length, body, checksum. -/
def Report.chars (r : Report) : List Byte :=
  let covered := [r.typeCode] ++ byte1 r.body.length ++ r.body
  startByte :: covered ++ [checksum covered]

/-! ### The profile image (R186 to R191, R211, R212) -/

/-- The bytes of point p's entry (R211), from the image after the header: entries begin at image position 15, which is 9 here. -/
def entryBytes (image : List Byte) (p : Nat) : List Byte := (image.drop (9 + 10 * (p - 1))).take 10

/-- A number lies in a range. -/
def within (lo hi n : Nat) : Bool := decide (lo ≤ n) && decide (n ≤ hi)

/-- The preset a settings set names (R189). -/
def preset (k : Kind) (set : Nat) : Settings :=
  match k, set with
  | .lamp, 2 => .lamp 5 120 2
  | .lamp, 3 => .lamp 30 900 5
  | .lamp, _ => .lamp 10 300 3
  | .loop, 2 => .loop 8 120 25
  | .loop, 3 => .loop 2 900 60
  | .loop, _ => .loop 4 300 40
  | .sign, 2 => .sign 15
  | .sign, 3 => .sign 90
  | .sign, _ => .sign 30
  | .supply, 2 => .supply 2 5
  | .supply, 3 => .supply 5 10
  | .supply, _ => .supply 1 2
  | .station, _ => .unused

/-- The explicit settings of an entry (R211). -/
def explicitSettings (k : Kind) (e : List Byte) : Settings :=
  match k with
  | .lamp => .lamp (byteAt e 6) (wordAt e 7) (byteAt e 9)
  | .loop => .loop (byteAt e 6) (wordAt e 7) (byteAt e 9)
  | .sign => .sign (wordAt e 6)
  | .supply => .supply (byteAt e 6) (byteAt e 7)
  | .station => .unused

/-- The settings lie within the ranges of R59. -/
def Settings.inRange : Settings → Bool
  | .unused => true
  | .lamp out day cycle => within 2 60 out && within 60 3600 day && within 2 15 cycle
  | .loop sens stuck chatter => within 1 32 sens && within 60 3600 stuck && within 10 100 chatter
  | .sign hb => within 10 300 hb
  | .supply loss restore => within 1 10 loss && within 1 30 restore

/-- A point's configuration from its entry (R58, R188, R189). -/
def readEntry (e : List Byte) : PointConfig :=
  match Kind.ofPointCode (byteAt e 0) with
  | none => .unused
  | some k =>
    { kind := some k, group := wordAt e 1, parent := wordAt e 3, set := byteAt e 5,
      settings := if byteAt e 5 = 0 then explicitSettings k e else preset k (byteAt e 5) }

/-- The checks of one entry in the order of R190, each with the code its failure gives. -/
def entryChecks (e : List Byte) : List (Bool × ProfileError) :=
  match byteAt e 0, Kind.ofPointCode (byteAt e 0) with
  | 0, _ => []
  | _, none => [(false, .range)]
  | _, some k =>
    [(k ≠ .supply || wordAt e 1 ≠ 0, .supplyNoGroup),
     (decide (wordAt e 1 ≤ 511), .range),
     (k ≠ .supply || wordAt e 3 ≠ wordAt e 1, .supplyOwnParent),
     (if k = .supply then decide (wordAt e 3 ≤ 511) else decide (wordAt e 3 = 0), .range),
     (decide (byteAt e 5 ≤ 3), .range),
     (byteAt e 5 ≠ 0 || (explicitSettings k e).inRange, .range)]

/-- The points 1 to 64. -/
def allPoints : List Nat := (List.range 64).map (· + 1)

/-- The profile the image gives (R187, R188, R211); it is put in force only when every check passes. Image position n of the manual is n - 6 here. -/
def readProfile (image : List Byte) : Profile :=
  { station := byteAt image 0
    lineRate := rateOfCode (byteAt image 1)
    consoleRate := rateOfCode (byteAt image 2)
    window := wordAt image 3
    returnGrace := wordAt image 5
    shedThreshold := byteAt image 7
    noticeLimit := byteAt image 8
    points := allPoints.map (fun p => readEntry (entryBytes image p)) }

/-- Checks 3 to 7 of R190, in order, each with the code its failure gives. -/
def imageChecks (crc : Word16) (image : List Byte) : List (Bool × ProfileError) :=
  [(decide (crc16 image = crc), .crc),
   (stationOk (byteAt image 0), .stationNumber),
   (within 1 3 (byteAt image 1), .range),
   (within 1 5 (byteAt image 2), .range),
   (within 60 600 (wordAt image 3), .range),
   (within 5 300 (wordAt image 5), .range),
   (within 8 31 (byteAt image 7), .range),
   (within 16 60 (byteAt image 8), .range)] ++
  allPoints.flatMap (fun p => entryChecks (entryBytes image p)) ++
  [(decide (readProfile image).supplyGroups.Nodup, .supplyDuplicate)]

/-- The first check that fails decides the code (R190); none where every check passes. -/
def firstError : List (Bool × ProfileError) → ProfileError
  | [] => .none
  | (ok, e) :: l => if ok then firstError l else e

/-- The station number as STATUS-REPLY reports it after a failed load (R191). -/
def reportedNumber (e : ProfileError) (image : List Byte) : Nat :=
  match e with
  | .format | .length | .crc | .stationNumber => 0
  | _ => byteAt image 0

end Sys2Proof.Machine
end

