-- ==== Sys2Proof/Machine/Roster.lean ====
section
/-!
DEFINITION. The operations of the Roster Unit (chapter 5): heard reports, silence timing, roster events, and the writes that the Table Engine hands it.
-/
namespace Sys2Proof.Machine

/-- A peer's roster entry (R111). -/
def RosterUnit.find (u : RosterUnit) (n : Nat) : Option RosterEntry :=
  u.entries.find? (fun e => decide (e.station = n))

/-- Write a peer's entry, in its place. -/
def RosterUnit.put (u : RosterUnit) (e : RosterEntry) : RosterUnit :=
  { u with entries := u.entries.map (fun x => if x.station = e.station then e else x) }

/-- A new entry joins in ascending station order (R111). -/
def insertPeerEntry (e : RosterEntry) : List RosterEntry → List RosterEntry
  | [] => [e]
  | x :: l => if e.station < x.station then e :: x :: l else x :: insertPeerEntry e l

/-- A roster event is made, or the waiting event of the station is withdrawn and none is made (R114). -/
def RosterUnit.makeEvent (u : RosterUnit) (n : Nat) (st : PeerState) : RosterUnit :=
  if u.events.any (fun e => decide (e.station = n)) then
    { u with events := u.events.filter (fun e => decide (e.station ≠ n)) }
  else { u with events := u.events ++ [{ station := n, state := st }] }

/-- The entry of a peer heard for the first time (R112). -/
def RosterEntry.first (n now : Nat) : RosterEntry :=
  { station := n, state := .present, lastHeard := now, window := 0, tag := none, framesHeard := 1 }

/-- A heard report is taken (R112). -/
def RosterUnit.heard (u : RosterUnit) (now n : Nat) : RosterUnit :=
  match u.find n with
  | none =>
    { u with entries := insertPeerEntry (RosterEntry.first n now) u.entries }
  | some e =>
    let u' := u.put { e with state := .present, lastHeard := now, framesHeard := e.framesHeard + 1 }
    if e.state = .silent then u'.makeEvent n .present else u'

/-- The effective window of an entry (R113): its own, or W where it is not yet known. -/
def RosterEntry.effective (e : RosterEntry) (W : Nat) : Nat := if e.window = 0 then W else e.window

/-- A PRESENT entry has reached its silence deadline (R113). -/
def RosterEntry.overdue (e : RosterEntry) (W now : Nat) : Bool :=
  decide (e.state = .present) && decide (e.lastHeard + 3 * e.effective W ≤ now)

/-- An entry becomes SILENT, with its roster event (R113). -/
def RosterUnit.silence (u : RosterUnit) (e : RosterEntry) : RosterUnit :=
  (u.put { e with state := .silent }).makeEvent e.station .silent

/-- The Table Engine stores a peer's run tag (R115, R117). -/
def RosterUnit.storeTag (u : RosterUnit) (n : Nat) (tag : Word16) : RosterUnit :=
  match u.find n with
  | some e => u.put { e with tag := some tag }
  | none => u

/-- The Table Engine stores a peer's refresh window (R115, R122). A different window recomputes the silence deadline, and an entry already past it becomes SILENT at that moment (R113). -/
def RosterUnit.storeWindow (u : RosterUnit) (W now n window : Nat) : RosterUnit :=
  match u.find n with
  | none => u
  | some e =>
    if e.window = window then u
    else
      let e' := { e with window := window }
      if e'.overdue W now then (u.put e').silence e' else u.put e'

/-- The refresh window a peer's records linger by (R25): the stored one, or W where it is not known. -/
def RosterUnit.windowOf (u : RosterUnit) (W n : Nat) : Nat :=
  match u.find n with
  | some e => e.effective W
  | none => W

end Sys2Proof.Machine
end

