-- ==== Sys2Proof/Machine/Flags.lean ====
section
/-!
DEFINITION. The flags of the Table Engine and what they are computed from: record counts, supervising records and lacking groups, TABLE-FULL (R24), GROUP-TABLE-FULL (R48, R50) and GROUP-CLASH (R51), each with the reports it gives rise to.
-/
namespace Sys2Proof.Machine

/-- The number of peer records (R31). -/
def peerCount (own : Nat) (cft : List Record) : Nat :=
  (cft.filter (fun r => decide (r.key.origin ≠ own))).length

/-- The number of own records (R31). -/
def ownCount (own : Nat) (cft : List Record) : Nat :=
  (cft.filter (fun r => decide (r.key.origin = own))).length

/-- An OPEN supervising record of a group (R34). -/
def Record.supervises (r : Record) (g : Nat) : Bool :=
  decide (r.kind = .supply) && decide (r.group = g) && decide (r.state = .opened)

/-- The lowest origin among a group's OPEN supervising records, where there is one (R37). -/
def lowestSupervisor (cft : List Record) (g : Nat) : Option Nat :=
  ((cft.filter (fun r => r.supervises g)).map (·.key.origin)).min?

/-- The groups that have an OPEN supervising record, ascending (R34). -/
def supervisedGroups (cft : List Record) : List Nat :=
  mergeNat ((cft.filter (fun r => decide (r.kind = .supply) && decide (r.state = .opened))).map (·.group)) []

/-- The lacking groups, ascending (R34, R48). -/
def lackingGroups (te : TableEngine) : List Nat :=
  (supervisedGroups te.cft).filter (fun g => !hasEntry te.groups g)

/-- A station-condition report of the Table Engine. -/
def tableReport (c : Condition) (raise : Bool) : StationReport :=
  { source := .tableEngine, condition := c, raise := raise }

/-- The TABLE-FULL check at a close (R24). -/
def TableEngine.tableFullCheck (te : TableEngine) (own : Nat) : TableEngine × List StationReport :=
  if te.tableFull && decide (peerCount own te.cft ≤ Config.tableFullClear) then
    ({ te with tableFull := false }, [tableReport .tableFull false])
  else (te, [])

/-- The GROUP-TABLE-FULL check at a close (R50). -/
def TableEngine.groupFullCheck (te : TableEngine) : TableEngine × List StationReport :=
  if te.groupTableFull && decide (te.groups.length ≤ Config.groupFullClear) && (lackingGroups te).isEmpty then
    ({ te with groupTableFull := false }, [tableReport .groupTableFull false])
  else (te, [])

/-- A peer SUPPLY record is held for a group this station supervises (R51). -/
def clashing (own : Nat) (supervised : List Nat) (cft : List Record) : Bool :=
  cft.any (fun r => decide (r.key.origin ≠ own) && decide (r.kind = .supply) && supervised.contains r.group)

/-- The GROUP-CLASH check at a close (R51). -/
def TableEngine.clashCheck (te : TableEngine) (own : Nat) (supervised : List Nat) :
    TableEngine × List StationReport :=
  let found := clashing own supervised te.cft
  if found && !te.groupClash then ({ te with groupClash := true }, [tableReport .groupClash true])
  else if !found && te.groupClash then ({ te with groupClash := false }, [tableReport .groupClash false])
  else (te, [])

end Sys2Proof.Machine
end

