-- ==== Sys2Proof/Machine/Tables.lean ====
section
/-!
DEFINITION. The Table Engine's shared operations: the arbiter over the claims (R12), the five table operations (R16 to R20), eviction (R21, R22), the group effects (R35 to R39, R48, R49), and the close of a claim (R13).
-/
namespace Sys2Proof.Machine

/-! ### The arbiter (R11, R12) -/

/-- The head claim of a source. -/
inductive Claim where
  | ownUpdate (slot : Nat)
  | timer (c : TimerClaim)
  | event (e : RosterEvent)
  | frame (f : PeerFrame)
  | page (source : DumpSource) (cursor : Cursor)
deriving DecidableEq, Repr

/-- The Table Engine takes claims: it has a profile, and its part of a REJOIN does not wait (R199, R200). -/
def State.claimsOpen (s : State) : Bool :=
  s.running && (match s.loader.rejoin with
    | none => true
    | some r => r.tableDone)

/-- The frames offered as claims (R11, R107): those that wait, except while a REJOIN is in progress, since a frame queued after the emptying is applied in the LISTENING that the REJOIN enters (R110, log 31). -/
def State.framesOffered (s : State) : List PeerFrame := if s.rejoining then [] else s.rx.queue

/-- The claim the arbiter takes next (R12): the head of the first source that has one waiting. -/
def State.nextClaim (s : State) : Option Claim :=
  if s.claimsOpen then
    match s.origin.ownUpdates, s.table.timers, s.roster.events, s.framesOffered, s.port.dump with
    | k :: _, _, _, _, _ => some (.ownUpdate k)
    | [], c :: _, _, _, _ => some (.timer c)
    | [], [], e :: _, _, _ => some (.event e)
    | [], [], [], f :: _, _ => some (.frame f)
    | [], [], [], [], .building src cur => some (.page src cur)
    | [], [], [], [], _ => none
  else none

/-! ### Timer expiries (R11, R14) -/

/-- The deadline of a timer claim. -/
def TimerClaim.deadline : TimerClaim → Nat
  | .linger d _ => d
  | .grace d _ => d

/-- The waiting order (R11): by deadline; at equal deadlines lingers first in key order, then graces in group order. -/
def TimerClaim.before (a b : TimerClaim) : Bool :=
  decide (a.deadline < b.deadline) || (decide (a.deadline = b.deadline) &&
    match a, b with
    | .linger _ k, .linger _ j => k.lt j
    | .linger _ _, .grace _ _ => true
    | .grace _ _, .linger _ _ => false
    | .grace _ g, .grace _ h => decide (g < h))

/-- A timer claim joins its list in the waiting order (R11). -/
def insertTimer (c : TimerClaim) : List TimerClaim → List TimerClaim
  | [] => [c]
  | d :: l => if c.before d then c :: d :: l else d :: insertTimer c l

/-! ### The table and the work of one claim -/

/-- The record with a key. -/
def findRecord (cft : List Record) (k : Key) : Option Record := cft.find? (fun r => decide (r.key = k))

/-- A record stands at the place of its key (R2). -/
def insertRecord (r : Record) : List Record → List Record
  | [] => [r]
  | x :: l => if r.key.lt x.key then r :: x :: l else x :: insertRecord r l

/-- A present record is overwritten in its place. -/
def putRecord (r : Record) (cft : List Record) : List Record :=
  cft.map (fun x => if x.key = r.key then r else x)

/-- A record leaves the table. -/
def eraseRecord (k : Key) (cft : List Record) : List Record := cft.filter (fun r => decide (r.key ≠ k))

/-- What a claim has done so far: the tables as it leaves them, and what its close needs. `removed` holds the RECORD-REMOVED notices, `changed` the keys that get a RECORD-CHANGED, `touched` the groups of R35, `ended` the groups whose entry the claim removed. -/
structure Work where
  te : TableEngine
  removed : List (Key × Report)
  changed : List Key
  inserted : List Key
  touched : List Nat
  ended : List Nat
  refused : Bool
  dirty : Bool
deriving DecidableEq, Repr

/-- A claim begins with the tables as they stand. -/
def Work.begin (te : TableEngine) : Work :=
  { te := te, removed := [], changed := [], inserted := [], touched := [], ended := [], refused := false,
    dirty := false }

/-- The groups an operation on a record touches (R35). -/
def touch (r : Record) (l : List Nat) : List Nat := if r.kind = .supply then insertNat r.group l else l

/-- Place a record whose key is absent (R16). -/
def Work.place (w : Work) (r : Record) : Work :=
  { w with
    te := { w.te with cft := insertRecord r w.te.cft }
    changed := insertKey r.key w.changed
    inserted := insertKey r.key w.inserted
    touched := touch r w.touched
    dirty := true }

/-- Overwrite a present record (R17). -/
def Work.replace (w : Work) (old r : Record) : Work :=
  { w with
    te := { w.te with cft := putRecord r w.te.cft }
    changed := insertKey r.key w.changed
    touched := touch r (touch old w.touched)
    dirty := true }

/-- Refresh a present peer record (R18). -/
def Work.refresh (w : Work) (now : Nat) (r : Record) : Work :=
  { w with
    te := { w.te with cft := putRecord { r with lastHeard := some now, freshness := .fresh } w.te.cft }
    changed := if r.freshness = .stale then insertKey r.key w.changed else w.changed
    dirty := true }

/-- Delete the record with a key, if there is one (R19). Its RECORD-REMOVED shows it as it stood (R27). -/
def Work.delete (w : Work) (k : Key) (cause : DeleteCause) : Work :=
  match findRecord w.te.cft k with
  | none => w
  | some r =>
    { w with
      te := { w.te with cft := eraseRecord k w.te.cft }
      removed := w.removed ++ [(k, .recordRemoved (r.item w.te.groups) cause)]
      changed := w.changed.filter (fun j => decide (j ≠ k))
      inserted := w.inserted.filter (fun j => decide (j ≠ k))
      touched := touch r w.touched
      dirty := true }

/-- Delete the records of a list of keys. -/
def Work.deleteAll (w : Work) (l : List Key) (cause : DeleteCause) : Work :=
  l.foldl (fun v k => v.delete k cause) w

/-- Mark every peer record of an origin STALE (R20). -/
def Work.markStale (w : Work) (origin : Nat) : Work :=
  let turned := w.te.cft.filter (fun r => decide (r.key.origin = origin) && decide (r.freshness = .fresh))
  { w with
    te := { w.te with cft := w.te.cft.map (fun r => if r.key.origin = origin then { r with freshness := .stale } else r) }
    changed := turned.foldr (fun r l => insertKey r.key l) w.changed
    dirty := true }

/-! ### Eviction (R21 to R23) -/

/-- The first record that no record comes before: the least, the lowest key among equals where the list is in key order. -/
def leastRecord (before : Record → Record → Bool) : List Record → Option Record
  | [] => none
  | r :: l =>
    match leastRecord before l with
    | none => some r
    | some m => if before m r then some m else some r

/-- Earlier by a time field. -/
def earlier (f : Record → Option Nat) (a b : Record) : Bool := decide ((f a).getD 0 < (f b).getD 0)

/-- Lower severity, and between equals heard longer ago (R21). -/
def lesser (a b : Record) : Bool :=
  decide (a.severity < b.severity) || (decide (a.severity = b.severity) && earlier (·.lastHeard) a b)

/-- The record to evict for an incoming severity (R21): the first step that yields one. -/
def evictionChoice (own : Nat) (te : TableEngine) (severity : Nat) : Option Record :=
  let peers := te.cft.filter (fun r => decide (r.key.origin ≠ own))
  let live := fun (v : ViewState) (r : Record) =>
    decide (r.freshness = .fresh) && decide (r.view te.groups = v) && decide (r.severity < severity)
  (leastRecord (earlier (·.clearedAt)) (peers.filter (fun r => decide (r.state = .cleared)))).orElse fun _ =>
  (leastRecord (earlier (·.lastHeard)) (peers.filter (fun r => decide (r.freshness = .stale)))).orElse fun _ =>
  (leastRecord lesser (peers.filter (live .held))).orElse fun _ =>
  leastRecord lesser (peers.filter (live .active))

/-- Insert a peer record (R16): placed, placed after an eviction (R22), or refused (R23). -/
def Work.insertPeer (w : Work) (own : Nat) (r : Record) : Work :=
  if peerCount own w.te.cft < Config.peerPlaces then w.place r
  else
    match evictionChoice own w.te r.severity with
    | some v =>
      let w' := w.delete v.key .eviction
      Work.place { w' with te := { w'.te with evictions := w'.te.evictions + 1 } } r
    | none =>
      { w with te := { w.te with refusedInserts := w.te.refusedInserts + 1, tableFull := true }, refused := true }

/-! ### Applying an announcement (R118, R119, R124) -/

/-- How an announcement's version stands to the held record's (R118). -/
inductive VersionJudgement where
  | newer
  | same
  | older
deriving DecidableEq, Repr

/-- Versions compared modulo 256 (R118). -/
def judgeVersion (i h : Version) : VersionJudgement :=
  if i = h then .same else if (i - h).toNat ≤ 127 then .newer else .older

/-- Raised at of a peer record (R7): now minus the age, or 0 where the age exceeds now, which is station seconds as it reads. -/
def State.raisedAt (s : State) (age : Nat) : Nat :=
  if s.time.seconds.toNat < age then 0 else s.nowSec - age

/-- The record an announcement inserts (R16, R124). -/
def Announcement.inserted (a : Announcement) (s : State) (origin : Nat) : Record :=
  { key := ⟨origin, a.point⟩, kind := a.kind, conds := a.conds, state := a.state, flapping := a.flapping,
    group := a.group, parent := a.parent, version := a.version, raisedAt := s.raisedAt a.age,
    occurrences := a.occurrences.getD 1, ackMark := a.ack, lastHeard := some s.nowSec, freshness := .fresh,
    clearedAt := if a.state = .cleared then some s.nowSec else none }

/-- The record an announcement leaves in place of a held one (R17, R6): key, last heard and freshness are left as they are, and a ROLL keeps the occurrences. -/
def Announcement.replaced (a : Announcement) (s : State) (old : Record) : Record :=
  { old with
    kind := a.kind, conds := a.conds, state := a.state, flapping := a.flapping, group := a.group,
    parent := a.parent, version := a.version, raisedAt := s.raisedAt a.age,
    occurrences := a.occurrences.getD old.occurrences, ackMark := a.ack,
    clearedAt := if a.state = .cleared then some s.nowSec else none }

/-- An announcement is applied to its key (R119, R124). -/
def Work.apply (w : Work) (s : State) (origin : Nat) (a : Announcement) : Work :=
  match findRecord w.te.cft ⟨origin, a.point⟩ with
  | none =>
    match a.state with
    | .opened => w.insertPeer s.own (a.inserted s origin)
    | .cleared => { w with te := { w.te with moot := w.te.moot + 1 } }
  | some r =>
    match judgeVersion a.version r.version with
    | .newer => (w.replace r (a.replaced s r)).refresh s.nowSec (a.replaced s r)
    | .same => w.refresh s.nowSec r
    | .older => { w with te := { w.te with old := w.te.old + 1 } }

/-! ### Group effects (R35 to R39, R48, R49) -/

/-- The groups as a close works on them: `created` and `ended` give the hold signals (R52), `raised` says that GROUP-TABLE-FULL is raised (R48). -/
structure GroupWork where
  te : TableEngine
  created : List Nat
  ended : List Nat
  raised : Bool
deriving DecidableEq, Repr

/-- An entry stands at the place of its group (R32). -/
def insertGroup (e : GroupEntry) : List GroupEntry → List GroupEntry
  | [] => [e]
  | x :: l => if e.group < x.group then e :: x :: l else x :: insertGroup e l

/-- A present entry takes a state. -/
def setGroup (g : Nat) (st : GroupState) (groups : List GroupEntry) : List GroupEntry :=
  groups.map (fun e => if e.group = g then { e with state := st } else e)

/-- An entry leaves the group table (R41). -/
def eraseGroup (g : Nat) (groups : List GroupEntry) : List GroupEntry :=
  groups.filter (fun e => decide (e.group ≠ g))

/-- A group with an OPEN supervising record and no entry is given one, or is lacking (R36, R48). -/
def GroupWork.create (c : GroupWork) (g supervisor : Nat) : GroupWork :=
  if c.te.groups.length < Config.groupPlaces then
    { c with te := { c.te with groups := insertGroup ⟨g, .down supervisor⟩ c.te.groups }
             created := insertNat g c.created }
  else { c with te := { c.te with groupTableFull := true }, raised := c.raised || !c.te.groupTableFull }

/-- The effect of a close on one touched group (the table of R35). -/
def groupEffect (s : State) (c : GroupWork) (g : Nat) : GroupWork :=
  match findEntry c.te.groups g, lowestSupervisor c.te.cft g with
  | none, none => c
  | none, some m => c.create g m
  | some _, some m => { c with te := { c.te with groups := setGroup g (.down m) c.te.groups } }
  | some e, none =>
    match e.state with
    | .down _ => { c with te := { c.te with groups := setGroup g (.returning (s.nowSec + s.returnGrace)) c.te.groups } }
    | .returning _ => c

/-- One group of the rescan (R49): an entry while there is room. -/
def rescanGroup (c : GroupWork) (g : Nat) : GroupWork :=
  match lowestSupervisor c.te.cft g with
  | some m => if c.te.groups.length < Config.groupPlaces then c.create g m else c
  | none => c

/-- The rescan (R49), made where the claim removed an entry while the flag is set. -/
def GroupWork.rescan (c : GroupWork) : GroupWork :=
  if c.te.groupTableFull && !c.ended.isEmpty then (lackingGroups c.te).foldl rescanGroup c else c

/-! ### Deadlines (R14, R25) -/

/-- The linger deadline of a record, while it has one (R25): cleared at plus its origin's window. -/
def lingerDeadline (W : Nat) (u : RosterUnit) (r : Record) : Option Nat :=
  match r.state, r.clearedAt with
  | .cleared, some t => some (t + u.windowOf W r.key.origin)
  | _, _ => none

/-- A waiting expiry still stands for its deadline (R14): a deadline cancelled or moved later withdraws it. -/
def TimerClaim.stands (W : Nat) (u : RosterUnit) (te : TableEngine) : TimerClaim → Bool
  | .linger d k =>
    match findRecord te.cft k with
    | some r => decide (lingerDeadline W u r = some d)
    | none => false
  | .grace d g =>
    match findEntry te.groups g with
    | some e => decide (e.state = .returning d)
    | none => false

/-- A ROLL's new window re-times the CLEARED records of its origin (R25): waiting expiries of the old deadlines are withdrawn, and a deadline already reached falls due at once. -/
def retimeLingers (W now origin : Nat) (u : RosterUnit) (te : TableEngine) : TableEngine :=
  let kept := te.timers.filter (fun c =>
    match c with
    | .linger _ k => decide (k.origin ≠ origin)
    | .grace _ _ => true)
  let fallen := te.cft.filterMap (fun r =>
    if r.key.origin = origin then
      match lingerDeadline W u r with
      | some d => if d ≤ now then some (TimerClaim.linger d r.key) else none
      | none => none
    else none)
  { te with timers := fallen.foldl (fun l c => insertTimer c l) kept }

/-! ### Notices of a claim (R27 to R30, R46) -/

/-- What the gate is handed of a record as it stood at the start of the claim (R171). -/
def seenAt (cft : List Record) (groups : List GroupEntry) (k : Key) : Option Seen :=
  (findRecord cft k).map (fun r => { severity := r.severity, view := r.view groups, freshness := r.freshness })

/-- The record notices of one key (R28): its RECORD-REMOVED ahead of its RECORD-CHANGED. -/
def keyNotices (start : TableEngine) (w : Work) (te : TableEngine) (k : Key) : List Notice :=
  (w.removed.filter (fun x => decide (x.1 = k))).map (fun x => { report := x.2, before := none }) ++
  (if w.changed.contains k then
    match findRecord te.cft k with
    | some r =>
      [{ report := .recordChanged (r.item te.groups)
         before := if w.inserted.contains k then none else seenAt start.cft start.groups k }]
    | none => []
   else [])

/-- The record notices of a claim, in ascending key order (R30). -/
def recordNotices (start : TableEngine) (w : Work) (te : TableEngine) : List Notice :=
  ((w.removed.map (·.1)).foldr insertKey w.changed).flatMap (keyNotices start w te)

/-- The GROUP notice of one group (R46): of an entry created, changed in state or supervisor, or removed since the start. -/
def groupNotice (start final : List GroupEntry) (cft : List Record) (g : Nat) : List Notice :=
  match findEntry start g, findEntry final g with
  | none, none => []
  | some _, none => [{ report := .group g .up none (heldCount cft g), before := none }]
  | none, some e => [{ report := .group g e.state.notice e.state.supervisor (heldCount cft g), before := none }]
  | some a, some e =>
    if a.state.notice = e.state.notice ∧ a.state.supervisor = e.state.supervisor then []
    else [{ report := .group g e.state.notice e.state.supervisor (heldCount cft g), before := none }]

/-- The GROUP notices between two group tables, in ascending group number (R30, R46). -/
def groupNotices (start final : List GroupEntry) (cft : List Record) : List Notice :=
  (mergeNat (start.map (·.group)) (mergeNat (final.map (·.group)) [])).flatMap (groupNotice start final cft)

/-- The hold signals of entries removed and created, in ascending group number, hold-ended first (R52). -/
def holdSignals (created ended : List Nat) : List HoldSignal :=
  (mergeNat created (mergeNat ended [])).flatMap (fun g =>
    (if ended.contains g then [.ended g] else []) ++ (if created.contains g then [.begun g] else []))

/-! ### The close of a claim (R13) -/

/-- What a claim's close hands on. -/
structure Closed where
  te : TableEngine
  reports : List StationReport
  signals : List HoldSignal
  notices : List Notice
deriving DecidableEq, Repr

/-- The close of a claim (R13): group effects, rescan, the checks of R50, R51 and R24, and what they hand on. `s` is the station as the claim leaves its other blocks, with the tables still as at the claim's start. -/
def Work.close (w : Work) (s : State) : Closed :=
  let c0 : GroupWork := { te := w.te, created := [], ended := w.ended, raised := false }
  let c1 := (w.touched.foldl (groupEffect s) c0).rescan
  let (te2, full) := c1.te.groupFullCheck
  let (te3, clash) := if w.dirty then te2.clashCheck s.own s.supervised else (te2, [])
  let (te4, table) := te3.tableFullCheck s.own
  { te := { te4 with timers := te4.timers.filter (TimerClaim.stands s.window s.roster te4) }
    reports := (if w.refused then [tableReport .tableFull true] else []) ++ table ++ clash ++
      (if c1.raised then [tableReport .groupTableFull true] else []) ++ full
    signals := holdSignals c1.created c1.ended
    notices := recordNotices s.table w te4 ++ groupNotices s.table.groups te4.groups te4.cft }

/-- What a close hands on is handed on (R13, R30, R52): reports and signals to the Origin Unit, notices to the gate, `extra` last. -/
def State.handOn (s : State) (c : Closed) (extra : List Notice) : State :=
  { s with
    table := c.te
    origin := { s.origin with stationIn := s.origin.stationIn ++ c.reports, holdIn := s.origin.holdIn ++ c.signals }
    port := s.port.gateAll (c.notices ++ extra) }

/-- A claim closes (R13). -/
def State.closeClaim (s : State) (w : Work) (extra : List Notice) : State := s.handOn (w.close s) extra

end Sys2Proof.Machine
end

