-- ==== Sys2Proof/Machine/Claims.lean ====
section
/-!
DEFINITION. The Table Engine's claims (chapters 1, 2, 5 and R176), the falling due of its deadlines (R14), and the Roster Unit's silence deadline (R113). Each claim is taken only when it is the arbiter's choice (R12).
-/
namespace Sys2Proof.Machine

/-! ### Deadlines -/

/-- SILENCE_DEADLINE (R113): a PRESENT peer's deadline is reached; it becomes SILENT and a roster event is made. -/
def silenceDeadline (n : Nat) (s : State) : State :=
  match s.roster.find n with
  | some e => if e.overdue s.window s.nowSec then { s with roster := s.roster.silence e } else s
  | none => s

/-- A timer claim joins the waiting list, unless it already waits (R14). -/
def State.addTimer (s : State) (c : TimerClaim) : State :=
  if s.table.timers.contains c then s
  else { s with table := { s.table with timers := insertTimer c s.table.timers } }

/-- LINGER_DEADLINE_DUE (R14, R25): of a peer CLEARED record. -/
def lingerDeadlineDue (origin point : Nat) (s : State) : State :=
  match findRecord s.table.cft ⟨origin, point⟩ with
  | some r =>
    match lingerDeadline s.window s.roster r with
    | some d => if origin ≠ s.own ∧ d ≤ s.nowSec then s.addTimer (.linger d ⟨origin, point⟩) else s
    | none => s
  | none => s

/-- GRACE_DEADLINE_DUE (R14, R40): of a RETURNING entry. -/
def graceDeadlineDue (g : Nat) (s : State) : State :=
  match findEntry s.table.groups g with
  | some { state := .returning d, .. } => if d ≤ s.nowSec then s.addTimer (.grace d g) else s
  | _ => s

/-! ### Own updates and timer expiries -/

/-- OWN_UPDATE (R15): the slot's record as it stands, at the slot's key (R82), is inserted or replaces the held one; of an empty slot, the record is deleted with cause LINGER. -/
def ownUpdate (s : State) : State :=
  match s.nextClaim with
  | some (.ownUpdate k) =>
    let s' := { s with origin := { s.origin with ownUpdates := s.origin.ownUpdates.drop 1 } }
    let w := Work.begin s.table
    let key : Key := ⟨s.own, k⟩
    match (s.origin.slot k).record, findRecord s.table.cft key with
    | some r, none => s'.closeClaim (w.place { r with key := key }) []
    | some r, some old => s'.closeClaim (w.replace old { r with key := key }) []
    | none, _ => s'.closeClaim (w.delete key .linger) []
  | _ => s

/-- LINGER_EXPIRY (R26): the record is re-checked and deleted with cause LINGER, or nothing is done. -/
def lingerExpiry (s : State) : State :=
  match s.nextClaim with
  | some (.timer (.linger _ k)) =>
    let s' := { s with table := { s.table with timers := s.table.timers.drop 1 } }
    let w := Work.begin s'.table
    match (findRecord s.table.cft k).bind (lingerDeadline s.window s.roster) with
    | some d => s'.closeClaim (if d ≤ s.nowSec then w.delete k .linger else w) []
    | none => s'.closeClaim w []
  | _ => s

/-- GRACE_EXPIRY (R40, R41): the entry is re-checked and removed, or nothing is done. -/
def graceExpiry (s : State) : State :=
  match s.nextClaim with
  | some (.timer (.grace _ g)) =>
    let s' := { s with table := { s.table with timers := s.table.timers.drop 1 } }
    let w := Work.begin s'.table
    match findEntry s.table.groups g with
    | some { state := .returning d, .. } =>
      if d ≤ s.nowSec then
        s'.closeClaim { w with te := { w.te with groups := eraseGroup g w.te.groups }, ended := [g] } []
      else s'.closeClaim w []
    | _ => s'.closeClaim w []
  | _ => s

/-! ### Roster events (R114) -/

/-- The records of an origin in a table. -/
def recordsOf (cft : List Record) (n : Nat) : List Record := cft.filter (fun r => decide (r.key.origin = n))

/-- ROSTER_EVENT_SILENT (R20, R114): the origin's records are marked STALE, then STATION-SILENT. -/
def rosterEventSilent (s : State) : State :=
  match s.nextClaim with
  | some (.event { station := n, state := .silent }) =>
    let s' := { s with roster := { s.roster with events := s.roster.events.drop 1 } }
    let w := (Work.begin s.table).markStale n
    let heard :=
      match s.roster.find n with
      | some e => e.lastHeard
      | none => 0
    s'.closeClaim w [{ report := .stationSilent n heard (recordsOf w.te.cft n).length, before := none }]
  | _ => s

/-- ROSTER_EVENT_PRESENT (R114): no record changes; STATION-BACK with the count of records still STALE. -/
def rosterEventPresent (s : State) : State :=
  match s.nextClaim with
  | some (.event { station := n, state := .present }) =>
    let s' := { s with roster := { s.roster with events := s.roster.events.drop 1 } }
    let stale := (recordsOf s.table.cft n).filter (fun r => decide (r.freshness = .stale))
    s'.closeClaim (Work.begin s.table) [{ report := .stationBack n stale.length, before := none }]
  | _ => s

/-! ### Frames (R116 to R126) -/

/-- A frame leaves the receive queue when its claim is taken (R107). -/
def State.takeFrame (s : State) : State := { s with rx := { s.rx with queue := s.rx.queue.drop 1 } }

/-- A frame that fails the content check is discarded and counted (R116, R151). -/
def State.badContent (s : State) : State :=
  State.closeClaim { s with rx := { s.rx with badFrames := s.rx.badFrames + 1 } } (Work.begin s.table) []

/-- The run-tag check (R117): a different known tag wipes every record of the sender, and the tag is stored. -/
def tagCheck (u : RosterUnit) (sender : Nat) (tag : Word16) (w : Work) : Work :=
  match u.find sender with
  | some { tag := some t, .. } =>
    if t = tag then w else w.deleteAll ((recordsOf w.te.cft sender).map (·.key)) .wipe
  | _ => w

/-- RECORD_FRAME (R116, R117, R119, R120). -/
def recordFrame (s : State) : State :=
  match s.nextClaim with
  | some (.frame { sender := n, kind := .record, body := b }) =>
    let s' := s.takeFrame
    match readRecord b with
    | none => s'.badContent
    | some f =>
      let w := (tagCheck s.roster n f.tag (Work.begin s.table)).apply s n f.ann
      State.closeClaim { s' with roster := s.roster.storeTag n f.tag } w []
  | _ => s

/-- The keys that the roll-call sweep deletes (R123): the sender's OPEN point records whose point is not in the open set. -/
def sweptKeys (cft : List Record) (sender : Nat) (openSet : List Nat) : List Key :=
  ((recordsOf cft sender).filter (fun r =>
    decide (1 ≤ r.key.point) && decide (r.state = .opened) && !openSet.contains r.key.point)).map (·.key)

/-- A ROLL applied after its window is stored (R122 to R125): the sweep, then the station part or the station record's removal. -/
def rollApply (s : State) (sender : Nat) (f : RollBody) (w : Work) : Work :=
  let w' := w.deleteAll (sweptKeys w.te.cft sender f.openSet) .sweep
  match f.part with
  | some a => w'.apply s sender a
  | none => w'.delete ⟨sender, 0⟩ .sweep

/-- ROLL_FRAME (R116, R117, R122 to R125). A window that differs from the stored one re-times lingers and silence. -/
def rollFrame (s : State) : State :=
  match s.nextClaim with
  | some (.frame { sender := n, kind := .roll, body := b }) =>
    let s' := s.takeFrame
    match readRoll b with
    | none => s'.badContent
    | some f =>
      let w := tagCheck s.roster n f.tag (Work.begin s.table)
      let u := s.roster.storeTag n f.tag
      let u' := u.storeWindow s.window s.nowSec n f.window
      let te := if u.windowOf s.window n = u'.windowOf s.window n then w.te
        else retimeLingers s.window s.nowSec n u' w.te
      State.closeClaim { s' with roster := u' } (rollApply s n f { w with te := te }) []
  | _ => s

/-- ACKNOWLEDGE_FRAME (R116, R126): handed to the Origin Unit where it is addressed here, discarded otherwise. -/
def acknowledgeFrame (s : State) : State :=
  match s.nextClaim with
  | some (.frame { sender := n, kind := .acknowledge, body := b }) =>
    let s' := s.takeFrame
    match readAcknowledge b with
    | none => s'.badContent
    | some a =>
      let o := if a.origin = s.own
        then { s.origin with acksIn := s.origin.acksIn ++ [{ sender := n, tag := a.tag, point := a.point, seen := a.seen }] }
        else s.origin
      State.closeClaim { s' with origin := o } (Work.begin s.table) []
  | _ => s

/-! ### Page builds (R176) -/

/-- A TABLE item lies strictly after the cursor. -/
def Cursor.beforeKey (c : Cursor) (k : Key) : Bool :=
  match c with
  | .record j => j.lt k
  | _ => true

/-- A ROSTER item lies strictly after the cursor. -/
def Cursor.beforeStation (c : Cursor) (n : Nat) : Bool :=
  match c with
  | .station m => decide (m < n)
  | _ => true

/-- A GROUPS item lies strictly after the cursor. -/
def Cursor.beforeGroup (c : Cursor) (g : Nat) : Bool :=
  match c with
  | .group h => decide (h < g)
  | _ => true

/-- The page of a source after a cursor, as the source stands (R176). -/
def State.pageItems (s : State) (src : DumpSource) (cur : Cursor) : PageItems :=
  match src with
  | .table =>
    .table ((((s.table.cft.filter (fun r => cur.beforeKey r.key)).map (fun r => r.item s.table.groups)).filter
      s.port.filter.passesItem).take 8)
  | .roster => .roster ((s.roster.entries.filter (fun e => cur.beforeStation e.station)).take 16)
  | .groups =>
    .groups (((s.table.groups.filter (fun e => cur.beforeGroup e.group)).take 16).map
      (fun e => { entry := e, heldCount := heldCount s.table.cft e.group }))

/-- The page size of a source (R176). -/
def DumpSource.pageSize : DumpSource → Nat
  | .table => 8
  | .roster => 16
  | .groups => 16

/-- The cursor after a page (R176): its last item, or unchanged where the page is empty. -/
def PageItems.cursor (items : PageItems) (cur : Cursor) : Cursor :=
  match items with
  | .table l => (l.getLast?.map (fun i => Cursor.record i.record.key)).getD cur
  | .roster l => (l.getLast?.map (fun e => Cursor.station e.station)).getD cur
  | .groups l => (l.getLast?.map (fun i => Cursor.group i.entry.group)).getD cur

/-- PAGE_BUILD (R176): the page is posted, with DUMP-END(COMPLETE) where it is not full, and the request service is FREE. -/
def pageBuild (s : State) : State :=
  match s.nextClaim with
  | some (.page src cur) =>
    let items := s.pageItems src cur
    let t := s.closeClaim (Work.begin s.table) []
    let p := t.port.post (.page items)
    let p' := if items.count < src.pageSize
      then { p.post (.dumpEnd .complete) with dump := .none }
      else { p with dump := .opened src (items.cursor cur) none }
    { t with port := { p' with service := .free } }
  | _ => s

/-! ### Meanings -/

/-- SILENCE_DEADLINE. -/
def execSilenceDeadline (n : Nat) (s : State) : Outcome := answer (stationOk n) (silenceDeadline n s)

/-- LINGER_DEADLINE_DUE. -/
def execLingerDeadlineDue (origin point : Nat) (s : State) : Outcome :=
  answer (stationOk origin && slotOk point) (lingerDeadlineDue origin point s)

/-- GRACE_DEADLINE_DUE. -/
def execGraceDeadlineDue (g : Nat) (s : State) : Outcome := answer (groupOk g) (graceDeadlineDue g s)

/-- OWN_UPDATE. -/
def execOwnUpdate (s : State) : Outcome := .next (ownUpdate s)

/-- LINGER_EXPIRY. -/
def execLingerExpiry (s : State) : Outcome := .next (lingerExpiry s)

/-- GRACE_EXPIRY. -/
def execGraceExpiry (s : State) : Outcome := .next (graceExpiry s)

/-- ROSTER_EVENT_SILENT. -/
def execRosterEventSilent (s : State) : Outcome := .next (rosterEventSilent s)

/-- ROSTER_EVENT_PRESENT. -/
def execRosterEventPresent (s : State) : Outcome := .next (rosterEventPresent s)

/-- RECORD_FRAME. -/
def execRecordFrame (s : State) : Outcome := .next (recordFrame s)

/-- ROLL_FRAME. -/
def execRollFrame (s : State) : Outcome := .next (rollFrame s)

/-- ACKNOWLEDGE_FRAME. -/
def execAcknowledgeFrame (s : State) : Outcome := .next (acknowledgeFrame s)

/-- PAGE_BUILD. -/
def execPageBuild (s : State) : Outcome := .next (pageBuild s)

end Sys2Proof.Machine
end

