-- ==== Sys2Proof/Machine/Line.lean ====
section
/-!
DEFINITION. The corridor line (chapter 6): runs and their close, the number clash, the choice and the sending of frames, the echo check, and the results of a send.
-/
namespace Sys2Proof.Machine

/-! ### Frames built (R99, R100, R141) -/

/-- The age a frame carries (R99, R207). -/
def State.ageOfRecord (s : State) (r : Record) : Nat := min (s.nowSec - r.raisedAt) Config.ageLimit

/-- The run tag frames carry (R101). It is drawn before any frame is sent. -/
def State.tag (s : State) : Word16 := s.origin.runTag.getD 0

/-- The open set of a ROLL (R100): the points whose slots hold an OPEN record. -/
def OriginUnit.openSet (o : OriginUnit) : List Nat :=
  allPoints.filter (fun p =>
    match (o.slot p).record with
    | some r => decide (r.state = .opened)
    | none => false)

/-- A ROLL as built now, with what it carries (R100, R141). -/
def State.buildRoll (s : State) : List Byte × Carried :=
  let sl := s.origin.slot 0
  (frameChars s.own .roll
    (writeRoll s.tag s.window s.origin.openSet (sl.record.map (fun r => (r, s.ageOfRecord r)))),
   .roll (sl.record.map (·.version)) sl.version)

/-- A RECORD for a slot as built now, with what it carries (R99, R141); none for an empty slot. -/
def State.buildRecord (s : State) (k : Nat) (refresh : Bool) : Option (List Byte × Carried) :=
  (s.origin.slot k).record.map (fun r =>
    (frameChars s.own .record (writeRecord s.tag r refresh (s.ageOfRecord r)), .record k (s.origin.slot k).version))

/-- The frame of an item as built now (R99, R100, R141). -/
def State.buildFrame (s : State) : SendItem → Option (List Byte × Carried)
  | .change k => if k = 0 then some s.buildRoll else s.buildRecord k false
  | .refresh k => if k = 0 then some s.buildRoll else s.buildRecord k true
  | .ack => s.origin.ackSlot.map (fun a => (frameChars s.own .acknowledge (writeAcknowledge a), .acknowledge))

/-! ### The arbiter of the line (R137, R139) -/

/-- The item chosen from what is pending (R139). -/
def State.chooseItem (s : State) : Option SendItem :=
  match s.origin.changeQueue.find? s.urgent, s.origin.ackSlot,
        s.origin.changeQueue.find? (fun k => !s.urgent k), s.origin.refreshDue with
  | some k, _, _, _ => some (.change k)
  | none, some _, _, _ => some .ack
  | none, none, some k, _ => some (.change k)
  | none, none, none, some k => some (.refresh k)
  | none, none, none, none => none

/-- The stagger in c (R137): (station number + turn) mod 16. -/
def State.stagger (s : State) : Nat := (s.own + s.tx.turn.toNat) % 16

/-- The required quiet in line time (R137). -/
def State.requiredQuiet (s : State) : Nat :=
  (4 + s.stagger + (match s.tx.current with
    | some c => c.backoff
    | none => 0)) * Config.lineParts

/-- An attempt of a send starts (R141): its backoff is spent, a refresh send is no longer due, and the frame goes out from now. -/
def State.startAttempt (s : State) (c : CurrentSend) (f : List Byte × Carried) : State :=
  { s with
    tx := { s.tx with
      current := some { c with backoff := 0 }
      state := .sending { frame := f.1, start := s.rx.clock, carried := f.2, returned := 0 }
      outEnd := none } }

/-- The refresh send is started (R98, R139): it is no longer due. -/
def State.takeRefresh (s : State) (i : SendItem) : State :=
  match i with
  | .refresh _ => { s with origin := { s.origin with refreshDue := none } }
  | _ => s

/-- The transmitter's access moment has come (R139, R141). -/
def State.access (s : State) : State :=
  match s.tx.current with
  | some c =>
    match s.buildFrame c.item with
    | some f => s.startAttempt c f
    | none => s.endSend
  | none =>
    match s.chooseItem with
    | none => { s with tx := { s.tx with state := .idle } }
    | some i =>
      match s.buildFrame i with
      | some f => (s.takeRefresh i).startAttempt { item := i, fails := 0, backoff := 0 } f
      | none => s.endSend

/-! ### Results of a send (R142 to R150, R152) -/

/-- LINE-MUTE or NUMBER-CLASH is reported (R135, R148, R150). -/
def lineReport (src : ReportSource) (c : Condition) (raise : Bool) : StationReport :=
  { source := src, condition := c, raise := raise }

/-- The item of a send still stands in a slot or the ack slot (R139). A refresh send of slot 0 stands with or without a record (R97), also where the slot has emptied during the attempt: the spec is silent there, and the choice is the model's (DESIGN CHOICE, log 20). -/
def State.itemStands (s : State) : SendItem → Bool
  | .change k => s.origin.changeQueue.contains k
  | .refresh k => k = 0 || (s.origin.slot k).record.isSome
  | .ack => s.origin.ackSlot.isSome

/-- The 16th consecutive failure (R148): MUTE is entered, LINE-MUTE raised, and the current send set aside; a refresh send dropped and one withdrawn are slips (R98). -/
def State.enterMute (s : State) (item : SendItem) : State :=
  let dropped : Count :=
    match item with
    | .refresh _ => 1
    | _ => 0
  let withdrawn : Count := if s.origin.refreshDue.isSome then 1 else 0
  { s with
    loader := { s.loader with state := .mute }
    tx := { s.tx with state := .idle, current := none, failures := 16,
                      muteEnd := some (s.now + Config.muteTicks), clearEnd := none, awaited := true }
    origin := { s.origin.handStation (lineReport .lineTransmitter .lineMute true) with
      refreshDue := none, slips := s.origin.slips + dropped + withdrawn } }

/-- A send's eighth failure (R146): it is abandoned, and the ack slot's gives ACK-UNSENT. -/
def State.abandon (s : State) (item : SendItem) : State :=
  let t : State :=
    match item with
    | .change k => { s with origin := { s.origin with changeQueue := s.origin.changeQueue.filter (fun j => decide (j ≠ k)) } }
    | .refresh _ => s
    | .ack =>
      match s.origin.ackSlot with
      | some a =>
        { s with
          origin := { s.origin with ackSlot := none }
          port := s.port.gate { report := .ackUnsent a.origin a.point a.seen, before := none } }
      | none => s
  State.endSend { t with tx := { t.tx with abandoned := t.tx.abandoned + 1 } }

/-- The bound of the backoff draw (R140): r is from 0 to 2^min(n,5) - 1. -/
def backoffBound (n : Nat) : Nat := 2 ^ min n 5

/-- The backoff drawn for the n-th failed attempt, in c (R140): r times 16c, r a free value below its bound (log 6). -/
def drawBackoff (ix n : Nat) : Nat := Config.backoffGenerator ix % backoffBound n * 16

/-- The end of the character an attempt is putting out at a line time (R143): the characters go out back to back, and the one that begins at this moment is being put out. -/
def Attempt.finishes (a : Attempt) (clock : Nat) : Nat :=
  a.start + min a.frame.length ((clock - a.start) / Config.lineParts + 1) * Config.lineParts

/-- The transmitter finishes the character it is putting out and puts out no more (R143, log 29). -/
def State.cutOff (s : State) : Option Nat :=
  match s.tx.state with
  | .sending a => some (a.finishes s.rx.clock)
  | _ => s.tx.outEnd

/-- The character that a failed attempt was putting out has ended (R143, log 29). -/
def State.outputFree (s : State) : Bool :=
  match s.tx.outEnd with
  | some e => decide (e ≤ s.rx.clock)
  | none => true

/-- The attempt on the line fails (R143): the character being put out is finished. During a REJOIN the counts rise and nothing more is done (R152). -/
def State.attemptFail (s : State) : State :=
  let failures := min (s.tx.failures + 1) 16
  let s' := { s with tx := { s.tx with
    collisions := s.tx.collisions + 1, failures := failures, outEnd := s.cutOff } }
  match s.tx.current with
  | none => { s' with tx := { s'.tx with state := .idle } }
  | some c =>
    if s.rejoining then { s' with tx := { s'.tx with state := .idle } }
    else if failures = 16 then s'.enterMute c.item
    else if 8 ≤ c.fails + 1 then s'.abandon c.item
    else if !s.itemStands c.item then s'.endSend
    else
      { s' with
        freeIx := s.freeIx + 1
        tx := { s'.tx with
          state := .waiting
          current := some { c with fails := c.fails + 1, backoff := drawBackoff s.freeIx (c.fails + 1) } } }

/-- The slot is as a frame carried it (R144). -/
def OriginUnit.matches (o : OriginUnit) : Carried → Bool
  | .record k v =>
    match (o.slot k).record with
    | some r => decide (r.version = v)
    | none => false
  | .roll (some v) _ =>
    match (o.slot 0).record with
    | some r => decide (r.version = v)
    | none => false
  | .roll none counter => (o.slot 0).record.isNone && decide ((o.slot 0).version = counter)
  | .acknowledge => false

/-- The slot a frame was built from, and whether its announced flag is set on a match (R144). -/
def Carried.slot : Carried → Option (Nat × Bool)
  | .record k _ => some (k, true)
  | .roll part _ => some (0, part.isSome)
  | .acknowledge => none

/-- The Origin Unit takes a success (R144, R145). -/
def OriginUnit.succeed (o : OriginUnit) (c : Carried) : OriginUnit :=
  match c.slot with
  | none => { o with ackSlot := none }
  | some (k, announce) =>
    if o.matches c then
      let o' := if announce then o.setSlot k { o.slot k with announced := true } else o
      { o' with changeQueue := o.changeQueue.filter (fun j => decide (j ≠ k)) }
    else o

/-- The attempt on the line succeeds (R142, R144, R145, R150). -/
def State.attemptSucceed (s : State) (a : Attempt) : State :=
  State.endSend { s with
    origin := s.origin.succeed a.carried
    tx := { s.tx with
      turn := s.tx.turn + 1
      failures := 0
      clearEnd := if s.tx.awaited then some (s.now + s.window * Config.ticksPerSecond) else s.tx.clearEnd
      awaited := false } }

/-! ### Runs (R131 to R135) -/

/-- A peer frame arrives (R106, R108, R112): its sender is heard, and it is queued, shed or lost. -/
def State.frameArrives (s : State) (f : PeerFrame) : State :=
  let n := s.rx.queue.length
  let rx :=
    if Config.receivePlaces ≤ n then { s.rx with lost := s.rx.lost + 1 }
    else if s.shedThreshold ≤ n && f.repeats then { s.rx with shed := s.rx.shed + 1 }
    else { s.rx with queue := s.rx.queue ++ [f], queued := s.rx.queued + 1 }
  { s with roster := s.roster.heard s.nowSec f.sender, rx := rx }

/-- A frame bears this station's number outside an echo run (R135). -/
def State.numberClash (s : State) : State :=
  { s with
    origin := s.origin.handStation (lineReport .lineReceiver .numberClash true)
    rx := { s.rx with clashEnd := some (s.now + s.window * Config.ticksPerSecond) } }

/-- The turn counter moves (R138). -/
def State.moveTurn (s : State) : State := { s with tx := { s.tx with turn := s.tx.turn + 1 } }

/-- A closed run that is no echo run is judged and handed on or counted (R132, R133). -/
def State.takeRun (s : State) (r : Run) : State :=
  match judgeRun r.bad r.chars with
  | .bad => { s with rx := { s.rx with badFrames := s.rx.badFrames + 1 } }
  | .unknownKind => { s with rx := { s.rx with unknownKinds := s.rx.unknownKinds + 1 } }
  | .valid f => if f.sender = s.own then s.moveTurn.numberClash else s.moveTurn.frameArrives f

/-- The echo run of an attempt closes (R142, R143): a success where every character has returned and no other was heard, a failure otherwise. -/
def State.takeEcho (s : State) (r : Run) : State :=
  match s.tx.state with
  | .sending a =>
    if a.returned = a.frame.length ∧ r.chars.length = a.frame.length then s.attemptSucceed a else s.attemptFail
  | _ => s

/-- The run held closes (R131, R133); an echo run whose attempt has ended is discarded uncounted. -/
def State.closeRun (s : State) : State :=
  match s.rx.run with
  | none => s
  | some r =>
    let s' := { s with rx := { s.rx with run := none } }
    if r.echo then s'.takeEcho r else s'.takeRun r

/-- Line time passes (R130, log 4). -/
def State.passLine (s : State) (dt : Nat) : State := { s with rx := { s.rx with clock := s.rx.clock + dt } }

/-- A run whose gap has been exceeded closes before the event at hand (R131, log 3). -/
def State.closeOverdue (s : State) : State :=
  match s.rx.run with
  | some r => if r.last + Config.gapParts < s.rx.clock then s.closeRun else s
  | none => s

/-- The latest time at which the next expected character may return (R141): 2c after the end of its stop bit. -/
def Attempt.echoBy (a : Attempt) : Nat := a.start + (a.returned + 1) * Config.lineParts + Config.gapParts

/-- The character is the echo expected (R141, R143): identical. That a character whose stop bit is not found is not identical, whatever its eight bits, is the model's choice (DESIGN CHOICE, log 32). -/
def Attempt.expects (a : Attempt) (char : Byte) (stopFound : Bool) : Bool :=
  stopFound && decide (a.frame[a.returned]? = some char)

/-- An attempt is on the line. -/
def TxState.isSending : TxState → Bool
  | .sending _ => true
  | _ => false

/-- An attempt whose next character has not returned in time fails before the event at hand (R143, log 3): the character at hand is not its echo, and a run that it begins is not the attempt's echo run (R133). -/
def State.failOverdue (s : State) : State :=
  match s.tx.state with
  | .sending a => if a.returned < a.frame.length ∧ a.echoBy < s.rx.clock then s.attemptFail else s
  | _ => s

/-- A character joins the run held or begins one (R131); the first run an attempt meets is its echo run (R133). -/
def State.joinRun (s : State) (char : Byte) (stopFound : Bool) : State :=
  let run : Run :=
    match s.rx.run with
    | some r => { r with chars := r.chars ++ [char], bad := r.bad || !stopFound, last := s.rx.clock }
    | none => { chars := [char], bad := !stopFound, last := s.rx.clock, echo := s.tx.state.isSending }
  { s with rx := { s.rx with run := some run, lastHeard := s.rx.clock } }

/-- The character is compared with the echo expected (R141, R143). A character after the last echo fails the attempt at the run's close. -/
def State.checkEcho (s : State) (char : Byte) (stopFound : Bool) : State :=
  match s.tx.state, s.rx.run with
  | .sending a, some r =>
    if r.echo && decide (a.returned < a.frame.length) then
      if a.expects char stopFound then
        { s with tx := { s.tx with state := .sending { a with returned := a.returned + 1 } } }
      else s.attemptFail
    else s
  | _, _ => s

/-! ### Meanings -/

/-- LINE_CHARACTER_HEARD (R131, R137, R143). -/
def lineCharacterHeard (char : Byte) (stopFound : Bool) (dt : Nat) (s : State) : State :=
  if s.running then ((s.passLine dt).closeOverdue.failOverdue.joinRun char stopFound).checkEcho char stopFound else s

/-- ECHO_TIMEOUT (R143): a sent character has not returned within 2c. -/
def echoTimeout (dt : Nat) (s : State) : State :=
  if s.running then
    let t := s.passLine dt
    match t.tx.state with
    | .sending a => if a.returned < a.frame.length ∧ a.echoBy ≤ t.rx.clock then t.attemptFail else t
    | _ => t
  else s

/-- RUN_CLOSE (R131 to R133): 2c has passed after the run's last character. -/
def runClose (dt : Nat) (s : State) : State :=
  if s.running then
    let t := s.passLine dt
    match t.rx.run with
    | some r => if r.last + Config.gapParts ≤ t.rx.clock then t.closeRun else t
    | none => t
  else s

/-- The transmitter may start an attempt now (R136, R137, R143, R199). -/
def State.mayAccess (s : State) : Bool :=
  decide (s.loader.state = .inStep) && !s.rejoining && decide (s.tx.state = .waiting) &&
  decide (s.rx.lastHeard + s.requiredQuiet ≤ s.rx.clock) && s.outputFree

/-- ACCESS_MOMENT (R137, R139, R141). -/
def accessMoment (dt : Nat) (s : State) : State :=
  if s.running then
    let t := (s.passLine dt).closeOverdue
    if t.mayAccess then t.access else t
  else s

/-- CLASH_TIMER_END (R135). -/
def clashTimerEnd (s : State) : State :=
  if due s.rx.clashEnd s.now then
    { s with rx := { s.rx with clashEnd := none }
             origin := s.origin.handStation (lineReport .lineReceiver .numberClash false) }
  else s

/-- MUTE_END (R149). -/
def muteEnd (s : State) : State :=
  if due s.tx.muteEnd s.now && s.loader.state = .mute then
    State.wake { s with loader := { s.loader with state := .inStep }
                        tx := { s.tx with muteEnd := none, failures := 15 } }
  else s

/-- LINE_MUTE_CLEAR_TIMER_END (R150). -/
def lineMuteClearTimerEnd (s : State) : State :=
  if due s.tx.clearEnd s.now then
    { s with tx := { s.tx with clearEnd := none }
             origin := s.origin.handStation (lineReport .lineTransmitter .lineMute false) }
  else s

/-- LINE_CHARACTER_HEARD. -/
def execLineCharacterHeard (char : Byte) (stopFound : Bool) (dt : Nat) (s : State) : Outcome :=
  .next (lineCharacterHeard char stopFound dt s)

/-- ECHO_TIMEOUT. -/
def execEchoTimeout (dt : Nat) (s : State) : Outcome := .next (echoTimeout dt s)

/-- RUN_CLOSE. -/
def execRunClose (dt : Nat) (s : State) : Outcome := .next (runClose dt s)

/-- ACCESS_MOMENT. -/
def execAccessMoment (dt : Nat) (s : State) : Outcome := .next (accessMoment dt s)

/-- CLASH_TIMER_END. -/
def execClashTimerEnd (s : State) : Outcome := .next (clashTimerEnd s)

/-- MUTE_END. -/
def execMuteEnd (s : State) : Outcome := .next (muteEnd s)

/-- LINE_MUTE_CLEAR_TIMER_END. -/
def execLineMuteClearTimerEnd (s : State) : Outcome := .next (lineMuteClearTimerEnd s)

end Sys2Proof.Machine
end

