-- ==== Sys2Proof/Machine/Monitors.lean ====
section
/-!
DEFINITION. The point monitors (chapter 3): the meanings of field inputs and of the monitors' own intervals. A monitor's event leaves its new present-condition set and hands the difference to the Origin Unit (R60).
-/
namespace Sys2Proof.Machine

/-- The monitor behind point p. -/
def Field.monitor (f : Field) (p : Nat) : Monitor := if p = 0 then .off else f.monitors.getD (p - 1) .off

/-- Write the monitor behind point p. -/
def Field.setMonitor (f : Field) (p : Nat) (m : Monitor) : Field :=
  { f with monitors := f.monitors.set (p - 1) m }

/-- A monitor's event (R60): the monitor is written and the difference of its sets is handed to the Origin Unit. -/
def State.monitorEvent (s : State) (p : Nat) (m : Monitor) (before after : List Condition) : State :=
  { s with field := s.field.setMonitor p m, origin := s.origin.handReports (reportsOf p before after) }

/-- A condition is in the set exactly when asked. -/
def condSet (c : Condition) (present : Bool) (l : List Condition) : List Condition :=
  if present then condJoin c l else condLeave c l

/-! ### Lamp (R61 to R66) -/

/-- The lamp's intervals are measured from the later of the last change of current and the end of the last settle (R62, R63). -/
def LampMonitor.since (m : LampMonitor) (f : Field) : Nat := max m.changedAt f.settleEndedAt

/-- The lamp settings of a point. -/
def State.lampSettings (s : State) (p : Nat) : Nat × Nat × Nat :=
  match (s.pointConfig p).settings with
  | .lamp out day cycle => (out, day, cycle)
  | _ => (0, 0, 0)

/-- A lamp monitor with a new set. -/
def State.lampEvent (s : State) (p : Nat) (m : LampMonitor) (after : List Condition) : State :=
  s.monitorEvent p (.lamp { m with present := after }) m.present after

/-- A lamp's set when dusk turns on: DAYBURN leaves it (R61, R63). -/
def Monitor.duskOn : Monitor → Monitor
  | .lamp m => .lamp { m with present := condLeave .lampDayburn m.present }
  | m => m

/-- The present-condition set of a monitor (R60). -/
def Monitor.present : Monitor → List Condition
  | .off => []
  | .lamp m => m.present
  | .loop m => m.present
  | .sign m => m.present
  | .supply m => m.present

/-- DUSK_CHANGE (R57, R61): at every lamp monitor the settle restarts, and a change to on removes DAYBURN. A tick has one sample of the dusk input: a change after it has been read is not this tick's (log 28). -/
def duskChange (on : Bool) (s : State) : State :=
  if s.running && s.field.duskOn != on && s.field.duskSampledAt != s.now then
    let f := s.field
    let monitors := if on then f.monitors.map Monitor.duskOn else f.monitors
    let reports := if on then
      allPoints.flatMap (fun p => reportsOf p (f.monitor p).present (f.monitor p).duskOn.present) else []
    { s with
      field := { f with duskOn := on, duskSampledAt := s.now, duskChangedAt := some s.now, settleEnd := some (s.now + Config.settleTicks),
                        monitors := monitors }
      origin := s.origin.handReports reports }
  else s

/-- DUSK_SETTLE_END (R61): the settle ends, and the OUT and DAYBURN intervals start afresh from its end. -/
def duskSettleEnd (s : State) : State :=
  match s.field.settleEnd with
  | some e => if e ≤ s.now then { s with field := { s.field with settleEnd := none, settleEndedAt := e } } else s
  | none => s

/-- The cycle list after a transition (R64). -/
def cycleAfter (limit now : Nat) (l : List Nat) : List Nat := pushTime limit now l

/-- This tick's sample of the dusk input has been read (R57, log 28). -/
def State.readDusk (s : State) : State := { s with field := { s.field with duskSampledAt := s.now } }

/-- LAMP_CURRENT_CHANGE (R57, R64): the intervals restart; a present-to-absent transition with dusk on, and not at the tick dusk turned on (R61, log 21), enters the cycle list and judges CYCLING. A tick has one sample of the current: a change after it has been read is not this tick's (log 28). -/
def lampCurrentChange (p : Nat) (present : Bool) (s : State) : State :=
  match s.field.monitor p with
  | .lamp m =>
    if m.current = present ∨ m.sampledAt = s.now then s
    else
      let m1 := { m with current := present, changedAt := s.now, sampledAt := s.now }
      if !present && s.field.duskOn && s.field.duskChangedAt != some s.now then
        let limit := (s.lampSettings p).2.2
        let list := cycleAfter limit s.now m.cycle
        let after := condSet .lampCycling (crowded limit Config.cyclingWindow s.now list) m.present
        s.readDusk.lampEvent p { m1 with cycle := list } after
      else s.lampEvent p m1 m.present
  | _ => s

/-- A lamp's event judged from its current and from the dusk input: this tick's samples of both have been read (R57, log 28). -/
def State.lampJudged (s : State) (p : Nat) (m : LampMonitor) (after : List Condition) : State :=
  s.readDusk.lampEvent p { m with sampledAt := s.now } after

/-- OUT_CONFIRM (R62): no settle runs, dusk is on, and current has been absent for the out-confirm time. -/
def outConfirm (p : Nat) (s : State) : State :=
  match s.field.monitor p with
  | .lamp m =>
    if s.field.settleEnd.isNone && s.field.duskOn && !m.current &&
        decide (m.since s.field + (s.lampSettings p).1 * Config.ticksPerSecond ≤ s.now) then
      s.lampJudged p m (condJoin .lampOut m.present)
    else s
  | _ => s

/-- OUT_CLEAR (R62): no settle runs and current has been present for 5 s, whatever the dusk level. -/
def outClear (p : Nat) (s : State) : State :=
  match s.field.monitor p with
  | .lamp m =>
    if s.field.settleEnd.isNone && m.current && decide (m.since s.field + Config.lampClearTicks ≤ s.now) then
      s.lampJudged p m (condLeave .lampOut m.present)
    else s
  | _ => s

/-- DAYBURN_CONFIRM (R63): no settle runs, dusk is off, and current has been present for the dayburn-confirm time. -/
def dayburnConfirm (p : Nat) (s : State) : State :=
  match s.field.monitor p with
  | .lamp m =>
    if s.field.settleEnd.isNone && !s.field.duskOn && m.current &&
        decide (m.since s.field + (s.lampSettings p).2.1 * Config.ticksPerSecond ≤ s.now) then
      s.lampJudged p m (condJoin .lampDayburn m.present)
    else s
  | _ => s

/-- DAYBURN_CLEAR (R63): no settle runs and current has been absent for 5 s. -/
def dayburnClear (p : Nat) (s : State) : State :=
  match s.field.monitor p with
  | .lamp m =>
    if s.field.settleEnd.isNone && !m.current && decide (m.since s.field + Config.lampClearTicks ≤ s.now) then
      s.lampJudged p m (condLeave .lampDayburn m.present)
    else s
  | _ => s

/-- The oldest time of a list has left a window (R64, R73). -/
def oldestLeft (window now : Nat) : List Nat → Bool
  | [] => false
  | oldest :: _ => decide (oldest + window ≤ now)

/-- CYCLING_WINDOW_EXPIRY (R64): the oldest entry of the full list leaves the window; the list keeps its entries. -/
def cyclingWindowExpiry (p : Nat) (s : State) : State :=
  match s.field.monitor p with
  | .lamp m =>
    if m.cycle.length = (s.lampSettings p).2.2 ∧ oldestLeft Config.cyclingWindow s.now m.cycle then
      s.lampEvent p m (condLeave .lampCycling m.present)
    else s
  | _ => s

/-! ### Loop (R67 to R75) -/

/-- The loop settings of a point. -/
def State.loopSettings (s : State) (p : Nat) : Nat × Nat × Nat :=
  match (s.pointConfig p).settings with
  | .loop sens stuck chatter => (sens, stuck, chatter)
  | _ => (0, 0, 0)

/-- The occupancy threshold (R67): baseline times sensitivity, divided by 256 and rounded down. -/
def occupancyThreshold (baseline sensitivity : Nat) : Nat := baseline * sensitivity / 256

/-- The class of a gate (R67); an in-range gate is not decided before a baseline exists. -/
def classOf (sensitivity : Nat) (baseline : Option Nat) (count : Nat) : Option GateClass :=
  if count < 500 then some .low
  else if 10000 < count then some .high
  else
    match baseline with
    | none => none
    | some b => if b + occupancyThreshold b sensitivity ≤ count then some .occupied else some .vacant

/-- A gate's count is in range (R67). -/
def inRange (count : Nat) : Bool := decide (500 ≤ count) && decide (count ≤ 10000)

/-- A gate is eligible for the baseline (R69). -/
def eligibleGate (baseline : Option Nat) (cls : Option GateClass) (count : Nat) : Bool :=
  if baseline.isNone then inRange count else decide (cls = some .vacant)

/-- The loop's part of a gate's end that is not conditions (R67 to R70): count, class, agreed state, sums. Before a baseline exists no class is kept and nothing is agreed (R70). -/
def LoopMonitor.gate (m : LoopMonitor) (sensitivity now count : Nat) : LoopMonitor :=
  let cls := classOf sensitivity m.baseline count
  let judged := m.baseline.isSome
  let turns := judged && decide (m.lastClass = cls) && decide (m.agreed ≠ cls)
  let eligible := eligibleGate m.baseline cls count
  { m with
    gateStart := m.gateStart + Config.gateTicks
    gateCount := 0
    gates := m.gates + 1
    lastClass := if judged then cls else none
    agreed := if turns then cls else m.agreed
    agreedAt := if turns then now else m.agreedAt
    sum := if eligible then m.sum + count else m.sum
    eligible := if eligible then m.eligible + 1 else m.eligible
    inRangeRun := if inRange count then m.inRangeRun + 1 else 0 }

/-- The agreed state has become `c` at this gate. -/
def becomes (before after : Option GateClass) (c : GateClass) : Bool :=
  decide (after = some c) && decide (before ≠ some c)

/-- STUCK after a gate (R72): the agreed state is OCCUPIED, and where it was so before, for more than the stuck limit; any other agreed state clears it. -/
def stuckAfter (stuckLimit now : Nat) (m : LoopMonitor) (present : List Condition) : List Condition :=
  if m.agreed = some .occupied then
    if m.agreedAt + stuckLimit * Config.ticksPerSecond < now then condJoin .loopStuck present else present
  else condLeave .loopStuck present

/-- OPEN and OUT-OF-RANGE after a gate (R71). -/
def rangeAfter (before : Option GateClass) (m : LoopMonitor) (present : List Condition) : List Condition :=
  let raised := if becomes before m.agreed .low then condJoin .loopOpen present
    else if becomes before m.agreed .high then condJoin .loopOutOfRange present else present
  if 40 ≤ m.inRangeRun then condLeave .loopOpen (condLeave .loopOutOfRange raised) else raised

/-- LOOP_GATE_END (R67 to R73): the gate's count is classed and the agreed state, the onsets and OPEN, OUT-OF-RANGE, STUCK and CHATTER are judged. -/
def loopGateEnd (p edges : Nat) (s : State) : State :=
  match s.field.monitor p with
  | .loop m =>
    if m.gateStart + Config.gateTicks ≤ s.now ∧ m.gates < 16 then
      let (sens, stuck, chatter) := s.loopSettings p
      let m1 := m.gate sens s.now (min (m.gateCount + edges) 65535)
      let onset := becomes m.agreed m1.agreed .occupied
      let onsets := if onset then pushTime (chatter + 1) s.now m1.onsets else m1.onsets
      let judged := stuckAfter stuck s.now m1 (rangeAfter m.agreed m1 m.present)
      let after := if onset
        then condSet .loopChatter (crowded (chatter + 1) Config.chatterWindow s.now onsets) judged else judged
      s.monitorEvent p (.loop { m1 with onsets := onsets, present := after }) m.present after
    else s
  | _ => s

/-- The distance between two counts, in either direction (R74). -/
def distance (a b : Nat) : Nat := max a b - min a b

/-- DRIFT after a boundary (R74). -/
def driftAfter (baseline reference : Nat) (present : List Condition) : List Condition :=
  if reference / 32 < distance baseline reference then condJoin .loopDrift present
  else if distance baseline reference ≤ reference / 64 then condLeave .loopDrift present
  else present

/-- The baseline that takes effect at a boundary (R69): the mean of 8 or more eligible gates, rounded down, or the one in force. -/
def LoopMonitor.nextBaseline (m : LoopMonitor) : Option Nat :=
  if 8 ≤ m.eligible then some (m.sum / m.eligible) else m.baseline

/-- LOOP_BASELINE_PERIOD_END (R69, R70, R74): after 16 gates a baseline is formed or kept, the first is the reference, and DRIFT is judged. -/
def loopBaselinePeriodEnd (p : Nat) (s : State) : State :=
  match s.field.monitor p with
  | .loop m =>
    if m.gates = 16 then
      let baseline := m.nextBaseline
      let reference := m.reference.orElse (fun _ => baseline)
      let after :=
        match baseline, reference with
        | some b, some r => driftAfter b r m.present
        | _, _ => m.present
      s.monitorEvent p
        (.loop { m with gates := 0, sum := 0, eligible := 0, baseline := baseline, reference := reference, present := after })
        m.present after
    else s
  | _ => s

/-- CHATTER_WINDOW_EXPIRY (R73): the oldest onset of the full list leaves the window. -/
def chatterWindowExpiry (p : Nat) (s : State) : State :=
  match s.field.monitor p with
  | .loop m =>
    if m.onsets.length = (s.loopSettings p).2.2 + 1 ∧ oldestLeft Config.chatterWindow s.now m.onsets then
      s.monitorEvent p (.loop { m with present := condLeave .loopChatter m.present }) m.present
        (condLeave .loopChatter m.present)
    else s
  | _ => s

/-! ### Sign (R76 to R79) -/

/-- The heartbeat limit of a point, in seconds. -/
def State.heartbeatLimit (s : State) (p : Nat) : Nat :=
  match (s.pointConfig p).settings with
  | .sign hb => hb
  | _ => 0

/-- What a burst code means (R77). -/
def burstMeaning : Nat → SignMeaning
  | 1 => .ok
  | 2 => .fault .signModule
  | 3 => .fault .signPower
  | 4 => .fault .signDisplayMismatch
  | _ => .fault .signOther

/-- The set after a valid burst (R77). -/
def burstSet (memory : Option SignMeaning) (meaning : SignMeaning) (present : List Condition) : List Condition :=
  let codes :=
    match meaning with
    | .ok => present.filter (fun c => decide (c = .signNoHeartbeat))
    | .fault c => if memory = some meaning then condJoin c present else present
  condLeave .signNoHeartbeat codes

/-- A burst ends (R76, R77): a valid one updates the memory, the conditions and the heartbeat; a malformed one is counted and discarded. -/
def State.endBurst (s : State) (p : Nat) (m : SignMonitor) (b : Burst) : State :=
  if 8 ≤ b.pulses then
    { s with field :=
      { s.field.setMonitor p (.sign { m with burst := none }) with malformedBursts := s.field.malformedBursts + 1 } }
  else
    let meaning := burstMeaning b.pulses
    let after := burstSet m.memory meaning m.present
    s.monitorEvent p
      (.sign { burst := none, memory := some meaning, heartbeatStart := some s.now, present := after })
      m.present after

/-- SIGN_BURST_END (R76, R77): the 200 ms gap has passed. -/
def signBurstEnd (p : Nat) (s : State) : State :=
  match s.field.monitor p with
  | .sign m =>
    match m.burst with
    | some b => if b.gapStart + Config.burstGapTicks ≤ s.now then s.endBurst p m b else s
    | none => s
  | _ => s

/-- A pulse joins the burst in progress or begins one, and restarts the gap (R76). -/
def SignMonitor.pulse (m : SignMonitor) (now : Nat) : SignMonitor :=
  match m.burst with
  | some b => { m with burst := some { pulses := b.pulses + 1, gapStart := now } }
  | none => { m with burst := some { pulses := 1, gapStart := now } }

/-- SIGN_PULSE (R76). A burst whose gap has passed ends before the pulse is taken (log 3). -/
def signPulse (p : Nat) (s : State) : State :=
  match s.field.monitor p with
  | .sign m =>
    let t :=
      match m.burst with
      | some b => if b.gapStart + Config.burstGapTicks < s.now then s.endBurst p m b else s
      | none => s
    match t.field.monitor p with
    | .sign n => { t with field := t.field.setMonitor p (.sign (n.pulse s.now)) }
    | _ => t
  | _ => s

/-- NO_HEARTBEAT (R78): the interval reaches the limit; the memory is emptied and the interval stops. -/
def noHeartbeat (p : Nat) (s : State) : State :=
  match s.field.monitor p with
  | .sign m =>
    match m.heartbeatStart with
    | some t =>
      if t + s.heartbeatLimit p * Config.ticksPerSecond ≤ s.now then
        let after := condJoin .signNoHeartbeat m.present
        s.monitorEvent p (.sign { m with memory := none, heartbeatStart := none, present := after }) m.present after
      else s
    | none => s
  | _ => s

/-! ### Supply (R80) -/

/-- The supply settings of a point. -/
def State.supplySettings (s : State) (p : Nat) : Nat × Nat :=
  match (s.pointConfig p).settings with
  | .supply loss restore => (loss, restore)
  | _ => (0, 0)

/-- SUPPLY_CONTACT_CHANGE (R57, R80): the loss or restore interval restarts. A tick has one sample of the contact: a change after it has been read is not this tick's (log 28). -/
def supplyContactChange (p : Nat) (closed : Bool) (s : State) : State :=
  match s.field.monitor p with
  | .supply m =>
    if m.closed = closed ∨ m.sampledAt = s.now then s
    else { s with field := s.field.setMonitor p (.supply { m with closed := closed, changedAt := s.now, sampledAt := s.now }) }
  | _ => s

/-- SUPPLY_LOSS_CONFIRM (R80): the contact has been open for the loss-confirm time. -/
def supplyLossConfirm (p : Nat) (s : State) : State :=
  match s.field.monitor p with
  | .supply m =>
    if !m.closed && decide (m.changedAt + (s.supplySettings p).1 * Config.ticksPerSecond ≤ s.now) then
      s.monitorEvent p (.supply { m with sampledAt := s.now, present := condJoin .supplyLoss m.present }) m.present
        (condJoin .supplyLoss m.present)
    else s
  | _ => s

/-- SUPPLY_RESTORE_CONFIRM (R80): the contact has been closed for the restore-confirm time. -/
def supplyRestoreConfirm (p : Nat) (s : State) : State :=
  match s.field.monitor p with
  | .supply m =>
    if m.closed && decide (m.changedAt + (s.supplySettings p).2 * Config.ticksPerSecond ≤ s.now) then
      s.monitorEvent p (.supply { m with sampledAt := s.now, present := condLeave .supplyLoss m.present }) m.present
        (condLeave .supplyLoss m.present)
    else s
  | _ => s

/-! ### Monitor start (R66, R75, R79, R80) -/

/-- The monitor of a kind at its start, with its first sample (R66, R75, R79, R80). A loop's `agreedAt` at the start tick is the model's: R75 gives no time while nothing is agreed (DESIGN CHOICE, log 27). -/
def Monitor.start (kind : Option Kind) (level : Bool) (now : Nat) : Monitor :=
  match kind with
  | some .lamp => .lamp { current := level, changedAt := now, sampledAt := now, cycle := [], present := [] }
  | some .loop =>
    .loop { gateStart := now, gateCount := 0, gates := 0, lastClass := none, agreed := none, agreedAt := now,
            sum := 0, eligible := 0, baseline := none, reference := none, inRangeRun := 0, onsets := [], present := [] }
  | some .sign => .sign { burst := none, memory := none, heartbeatStart := some now, present := [] }
  | some .supply => .supply { closed := level, changedAt := now, sampledAt := now, present := [] }
  | some .station => .off
  | none => .off

/-- The field side at monitor start (R66): a dusk settle begins, and the first samples are no change. -/
def Field.begin (f : Field) (profile : Profile) (now : Nat) (duskOn : Bool) (levels : BitVec 64) : Field :=
  { f with
    duskOn := duskOn, duskSampledAt := now, duskChangedAt := none, settleEnd := some (now + Config.settleTicks), settleEndedAt := now
    monitors := allPoints.map (fun p => Monitor.start (profile.point p).kind (levels.getLsbD (p - 1)) now) }

/-! ### Meanings -/

/-- DUSK_CHANGE. -/
def execDuskChange (on : Bool) (s : State) : Outcome := .next (duskChange on s)

/-- DUSK_SETTLE_END. -/
def execDuskSettleEnd (s : State) : Outcome := .next (duskSettleEnd s)

/-- LAMP_CURRENT_CHANGE. -/
def execLampCurrentChange (p : Nat) (present : Bool) (s : State) : Outcome :=
  answer (pointOk p) (lampCurrentChange p present s)

/-- OUT_CONFIRM. -/
def execOutConfirm (p : Nat) (s : State) : Outcome := answer (pointOk p) (outConfirm p s)

/-- OUT_CLEAR. -/
def execOutClear (p : Nat) (s : State) : Outcome := answer (pointOk p) (outClear p s)

/-- DAYBURN_CONFIRM. -/
def execDayburnConfirm (p : Nat) (s : State) : Outcome := answer (pointOk p) (dayburnConfirm p s)

/-- DAYBURN_CLEAR. -/
def execDayburnClear (p : Nat) (s : State) : Outcome := answer (pointOk p) (dayburnClear p s)

/-- CYCLING_WINDOW_EXPIRY. -/
def execCyclingWindowExpiry (p : Nat) (s : State) : Outcome := answer (pointOk p) (cyclingWindowExpiry p s)

/-- LOOP_GATE_END. -/
def execLoopGateEnd (p edges : Nat) (s : State) : Outcome := answer (pointOk p) (loopGateEnd p edges s)

/-- LOOP_BASELINE_PERIOD_END. -/
def execLoopBaselinePeriodEnd (p : Nat) (s : State) : Outcome := answer (pointOk p) (loopBaselinePeriodEnd p s)

/-- CHATTER_WINDOW_EXPIRY. -/
def execChatterWindowExpiry (p : Nat) (s : State) : Outcome := answer (pointOk p) (chatterWindowExpiry p s)

/-- SIGN_PULSE. -/
def execSignPulse (p : Nat) (s : State) : Outcome := answer (pointOk p) (signPulse p s)

/-- SIGN_BURST_END. -/
def execSignBurstEnd (p : Nat) (s : State) : Outcome := answer (pointOk p) (signBurstEnd p s)

/-- NO_HEARTBEAT. -/
def execNoHeartbeat (p : Nat) (s : State) : Outcome := answer (pointOk p) (noHeartbeat p s)

/-- SUPPLY_CONTACT_CHANGE. -/
def execSupplyContactChange (p : Nat) (closed : Bool) (s : State) : Outcome :=
  answer (pointOk p) (supplyContactChange p closed s)

/-- SUPPLY_LOSS_CONFIRM. -/
def execSupplyLossConfirm (p : Nat) (s : State) : Outcome := answer (pointOk p) (supplyLossConfirm p s)

/-- SUPPLY_RESTORE_CONFIRM. -/
def execSupplyRestoreConfirm (p : Nat) (s : State) : Outcome := answer (pointOk p) (supplyRestoreConfirm p s)

end Sys2Proof.Machine
end

