-- ==== Sys2Proof/Machine/Origin.lean ====
section
/-!
DEFINITION. The Origin Unit (chapter 4) and the ack mark (chapter 7): the meanings of condition reports, hold signals, linger and latch, the refresh walk, and the two acknowledgements at the origin.
-/
namespace Sys2Proof.Machine

/-! ### Changes of an own record -/

/-- A slot takes a changed record (R83, R92, R93, R96): the counter is incremented once and the record takes it, the announced flag becomes false, an own update is offered, and a change entry is created where R96 allows. -/
def State.commit (s : State) (k : Nat) (sl : OwnSlot) (r : Record) : State :=
  let r' := { r with version := sl.version + 1 }
  let o := (s.origin.setSlot k { sl with record := some r', version := sl.version + 1, announced := false }).offer k
  let o' := if s.queues && !o.changeQueue.contains k && !o.deferred r'
    then { o with changeQueue := s.enqueue k o.changeQueue } else o
  State.wake { s with origin := o' }

/-- A slot is written without a change of its record: no own update, no change entry (R85, R92). -/
def State.putSlot (s : State) (k : Nat) (sl : OwnSlot) : State :=
  { s with origin := s.origin.setSlot k sl }

/-- The wanted condition (R84): the most severe of an ascending picture, the lower code between equals. -/
def wanted : List Condition → Option Condition
  | [] => none
  | c :: l =>
    match wanted l with
    | none => some c
    | some d => if c.severity < d.severity then some d else some c

/-- A raise enters the history (R89); the flag says that the latch is set: four raises, the oldest less than 15 minutes ago. -/
def raiseHistory (now : Nat) (h : List Nat) : List Nat × Bool :=
  let h' := pushTime 4 now h
  (h', crowded 4 Config.flapWindow now h')

/-- The record of an empty slot's raise (R84, R91). Its version is set when it is committed. -/
def newOwnRecord (s : State) (k : Nat) (kind : Kind) (conds : List Condition) (group parent : Nat)
    (flapping : Bool) : Record :=
  { key := ⟨s.own, k⟩, kind := kind, conds := conds, state := .opened, flapping := flapping, group := group,
    parent := if kind = .supply ∧ parent ≠ 0 then some parent else none, version := 0, raisedAt := s.nowSec,
    occurrences := 1, ackMark := none, lastHeard := none, freshness := .fresh, clearedAt := none }

/-- A record raised again (R87): OPEN, occurrences up by one saturating at 255, raised at now, cleared at removed. -/
def Record.reraised (r : Record) (now : Nat) (conds : List Condition) (flapping : Bool) : Record :=
  { r with state := .opened, conds := conds, occurrences := min (r.occurrences + 1) 255, raisedAt := now,
           clearedAt := none, flapping := flapping }

/-- A record cleared (R86, R90): the condition kept, the ack mark removed, cleared at now, flapping no. -/
def Record.clearedNow (r : Record) (now : Nat) : Record :=
  { r with state := .cleared, ackMark := none, clearedAt := some now, flapping := false }

/-- A record whose condition changes (R85): the ack mark is removed. -/
def Record.recondition (r : Record) (conds : List Condition) : Record :=
  { r with conds := conds, ackMark := none }

/-- A point slot's raise (R84, R87, R89) with its history and latch. -/
def State.raisePoint (s : State) (p : Nat) (sl : OwnSlot) (make : Bool → Record) : State :=
  let h := raiseHistory s.now sl.history
  s.commit p { sl with history := h.1, quietEnd := none } (make h.2)

/-- The Origin Unit takes a report of point p (R84 to R87, R90). -/
def State.takeReport (s : State) (p : Nat) (rep : ConditionReport) : State :=
  let old := s.origin.slot p
  let picture := if rep.raise then condJoin rep.condition old.picture else condLeave rep.condition old.picture
  let sl := { old with picture := picture }
  match sl.record, wanted picture with
  | none, none => s.putSlot p sl
  | none, some c =>
    match s.pointConfig p with
    | { kind := some k, group := g, parent := pg, .. } =>
      s.raisePoint p sl (newOwnRecord s p k [c] g pg)
    | _ => s.putSlot p sl
  | some r, w =>
    match r.state, w with
    | .opened, some c =>
      if r.conds = [c] then s.putSlot p { sl with quietEnd := none }
      else s.commit p { sl with quietEnd := none } (r.recondition [c])
    | .opened, none =>
      if r.flapping then
        s.putSlot p (if old.picture = [] then sl else { sl with quietEnd := some (s.now + Config.quietTicks) })
      else s.commit p sl (r.clearedNow s.nowSec)
    | .cleared, some c => s.raisePoint p sl (r.reraised s.nowSec [c])
    | .cleared, none => s.putSlot p sl

/-- The Origin Unit takes a station-condition report (R91). -/
def State.takeStationReport (s : State) (rep : StationReport) : State :=
  let old := s.origin.slot 0
  if rep.raise = old.picture.contains rep.condition then s
  else
    let list := if rep.raise then condJoin rep.condition old.picture else condLeave rep.condition old.picture
    let sl := { old with picture := list }
    match sl.record, list with
    | none, [] => s.putSlot 0 sl
    | none, c :: cs => s.commit 0 sl (newOwnRecord s 0 .station (c :: cs) 0 0 false)
    | some r, l =>
      match r.state, l with
      | .opened, [] => s.commit 0 sl (r.clearedNow s.nowSec)
      | .opened, c :: cs => s.commit 0 sl (r.recondition (c :: cs))
      | .cleared, c :: cs => s.commit 0 sl (r.reraised s.nowSec (c :: cs) false)
      | .cleared, [] => s.putSlot 0 sl

/-- The own linger deadline of a slot is reached (R88). -/
def State.lingerOver (s : State) (k : Nat) : Bool :=
  match (s.origin.slot k).record with
  | some { state := .cleared, clearedAt := some t, .. } => decide (t + s.window ≤ s.nowSec)
  | _ => false

/-- The transmitter's current send loses its item at a linger end while it waits between attempts (R139). -/
def State.dropLingered (s : State) (k : Nat) : State :=
  match s.tx.state, s.tx.current with
  | .sending _, _ => s
  | _, some c =>
    if (c.item = .change k ∧ k ≠ 0) ∨ c.item = .refresh k then s.endSend else s
  | _, none => s

/-- The ack mark is set (R154). -/
def State.setMark (s : State) (k : Nat) (sl : OwnSlot) (r : Record) (station : Nat) : State :=
  s.commit k sl { r with ackMark := some station }

/-! ### Meanings -/

/-- CONDITION_REPORT (R84): the oldest waiting report of the point is taken. -/
def conditionReport (p : Nat) (s : State) : State :=
  match s.origin.reportsIn.find? (fun r => decide (r.point = p)) with
  | none => s
  | some rep =>
    State.takeReport
      { s with origin := { s.origin with reportsIn := s.origin.reportsIn.eraseP (fun r => decide (r.point = p)) } }
      p rep

/-- STATION_CONDITION_REPORT (R91): the oldest waiting report of the block is taken. -/
def stationConditionReport (src : ReportSource) (s : State) : State :=
  match s.origin.stationIn.find? (fun r => decide (r.source = src)) with
  | none => s
  | some rep =>
    State.takeStationReport
      { s with origin := { s.origin with stationIn := s.origin.stationIn.eraseP (fun r => decide (r.source = src)) } }
      rep

/-- FLAP_RELEASE (R90): the quiet interval has ended with the picture empty; the latch releases and the record clears in one event. -/
def flapRelease (k : Nat) (s : State) : State :=
  let sl := s.origin.slot k
  match sl.record with
  | some r =>
    if r.flapping && r.state = .opened && sl.picture = [] && due sl.quietEnd s.now then
      s.commit k { sl with history := [], quietEnd := none } (r.clearedNow s.nowSec)
    else s
  | none => s

/-- OWN_LINGER_END (R88): the record is removed, the slot empties, and a removal is offered; nothing is announced and no slip is counted. -/
def ownLingerEnd (k : Nat) (s : State) : State :=
  if s.lingerOver k then
    let sl := s.origin.slot k
    let o := (s.origin.setSlot k { sl with record := none, announced := false, picture := [] }).offer k
    let o' := { o with
      changeQueue := if k = 0 then o.changeQueue else o.changeQueue.filter (fun j => decide (j ≠ k))
      refreshDue := if o.refreshDue = some k then none else o.refreshDue }
    State.dropLingered { s with origin := o' } k
  else s

/-- HOLD_BEGUN_SIGNAL (R94): the group joins the held set. -/
def holdBegunSignal (s : State) : State :=
  match s.origin.holdIn with
  | .begun g :: rest => { s with origin := { s.origin with holdIn := rest, held := insertNat g s.origin.held } }
  | _ => s

/-- The slots that a hold's end queues, ascending (R94): own LAMP, LOOP or SIGN records of the group, not announced, without an entry. -/
def OriginUnit.released (o : OriginUnit) (g : Nat) : List Nat :=
  allPoints.filter (fun k =>
    match (o.slot k).record with
    | some r =>
      (r.kind = .lamp || r.kind = .loop || r.kind = .sign) && decide (r.group = g) &&
        !(o.slot k).announced && !o.changeQueue.contains k
    | none => false)

/-- HOLD_ENDED_SIGNAL (R94): the group leaves the held set, and in IN-STEP or MUTE its unannounced own records are queued. -/
def holdEndedSignal (s : State) : State :=
  match s.origin.holdIn with
  | .ended g :: rest =>
    let o := { s.origin with holdIn := rest, held := s.origin.held.filter (fun h => decide (h ≠ g)) }
    let o' := if s.queues then { o with changeQueue := (o.released g).foldl (fun q k => s.enqueue k q) o.changeQueue } else o
    State.wake { s with origin := o' }
  | _ => s

/-- A refusal of an ACK (R155, R209). -/
def ackRefused (reason : RefusalReason) (origin point : Nat) : Report := .refused 0x06 reason origin point

/-- The Origin Unit's re-check of a dispatcher ACK (R156): the first that fails, or none. -/
def State.ownAckCheck (s : State) (k : Nat) (seen : Version) : Option RefusalReason :=
  if s.loader.state ≠ .inStep then some .notReady
  else
    match (s.origin.slot k).record with
    | none => some .noRecord
    | some r =>
      if r.state ≠ .opened then some .notOpen
      else if r.version ≠ seen then some .changed
      else if r.ackMark ≠ none then some .already
      else none

/-- OWN_ACK_DECISION (R156): the Origin Unit decides, the reply is posted, and the request service is FREE. -/
def ownAckDecision (s : State) : State :=
  match s.port.service with
  | .ownAck origin point seen =>
    let reply (r : Report) (t : State) : State := { t with port := { t.port.post r with service := .free } }
    match s.ownAckCheck point seen, (s.origin.slot point).record with
    | none, some r =>
      reply (.ackReply origin point .accepted) (s.setMark point (s.origin.slot point) r s.own)
    | some reason, _ => reply (ackRefused reason origin point) s
    | none, none => s
  | _ => s

/-- The conditions under which the origin applies an ACKNOWLEDGE (R161). -/
def State.ackApplies (s : State) (a : AckFrame) : Option Record :=
  match (s.origin.slot a.point).record with
  | some r =>
    if s.origin.runTag = some a.tag ∧ r.state = .opened ∧ r.version = a.seen ∧ r.ackMark = none then some r else none
  | none => none

/-- ACKNOWLEDGE_AT_ORIGIN (R161): the mark is set to the frame's sender, or the frame is ignored and counted. -/
def acknowledgeAtOrigin (s : State) : State :=
  match s.origin.acksIn with
  | [] => s
  | a :: rest =>
    let s' := { s with origin := { s.origin with acksIn := rest } }
    match s'.ackApplies a with
    | some r => s'.setMark a.point (s'.origin.slot a.point) r a.sender
    | none => { s' with origin := { s'.origin with acksIgnored := s'.origin.acksIgnored + 1 } }

/-- The walk's step interval in ticks (R97). -/
def stepInterval (W : Nat) : Nat := W * 100 / 65

/-- The slot reached would make a refresh send due (R97). -/
def OriginUnit.refreshes (o : OriginUnit) (k : Nat) : Bool := k = 0 || (o.slot k).record.isSome

/-- WALK_STEP (R97, R98): a due send not started is withdrawn and counted as a slip; the pointer moves; the slot reached makes a send due, or in MUTE a slip is counted instead. -/
def walkStep (s : State) : State :=
  match s.origin.stepDue with
  | some t =>
    if t ≤ s.now then
      let o := s.origin
      let k := (o.pointer + 1) % 65
      let withdrawn : Count := if o.refreshDue.isSome then 1 else 0
      let missed : Count := if o.refreshes k && s.loader.state = .mute then 1 else 0
      let nextDue := if o.refreshes k && s.loader.state ≠ .mute then some k else none
      State.wake { s with origin := { o with
        pointer := k
        stepDue := some (t + stepInterval s.window)
        refreshDue := nextDue
        slips := o.slips + withdrawn + missed } }
    else s
  | none => s

/-- CONDITION_REPORT. -/
def execConditionReport (p : Nat) (s : State) : Outcome := answer (pointOk p) (conditionReport p s)

/-- STATION_CONDITION_REPORT. -/
def execStationConditionReport (src : ReportSource) (s : State) : Outcome := .next (stationConditionReport src s)

/-- FLAP_RELEASE. -/
def execFlapRelease (k : Nat) (s : State) : Outcome := answer (pointOk k) (flapRelease k s)

/-- OWN_LINGER_END. -/
def execOwnLingerEnd (k : Nat) (s : State) : Outcome := answer (slotOk k) (ownLingerEnd k s)

/-- HOLD_BEGUN_SIGNAL. -/
def execHoldBegunSignal (s : State) : Outcome := .next (holdBegunSignal s)

/-- HOLD_ENDED_SIGNAL. -/
def execHoldEndedSignal (s : State) : Outcome := .next (holdEndedSignal s)

/-- OWN_ACK_DECISION. -/
def execOwnAckDecision (s : State) : Outcome := .next (ownAckDecision s)

/-- ACKNOWLEDGE_AT_ORIGIN. -/
def execAcknowledgeAtOrigin (s : State) : Outcome := .next (acknowledgeAtOrigin s)

/-- WALK_STEP. -/
def execWalkStep (s : State) : Outcome := .next (walkStep s)

end Sys2Proof.Machine
end

