-- ==== Sys2Proof/Machine/Port.lean ====
section
/-!
DEFINITION. The Dispatcher Port (chapter 8): the request assembler and the request queue, the request service with its eight kinds of request, the sending of reports, and the dump's idle deadline.
-/
namespace Sys2Proof.Machine

/-! ### Requests in (R166, R167) -/

/-- A request is offered to the request queue (R167): it joins at the tail, or is discarded where 8 wait. -/
def DispatcherPort.offer (p : DispatcherPort) (r : Request) : DispatcherPort :=
  if p.requests.length < Config.requestPlaces then { p with requests := p.requests ++ [r] }
  else { p with discarded := p.discarded + 1 }

/-- More than 100 ms have passed since a character (R166). -/
def gapOver (last now : Nat) : Bool := decide (last + Config.requestGapTicks < now)

/-- The request gathered ends as malformed (R166, R210): its type character as received, 0 where none arrived. -/
def gapRequest (chars : List Byte) : Request := .malformed (chars.headD 0)

/-- A gap that has been exceeded ends what the assembler holds before the character at hand (R166, log 3). -/
def DispatcherPort.settleGap (p : DispatcherPort) (now : Nat) : DispatcherPort :=
  match p.assembler with
  | .idle => p
  | .gathering chars _ last =>
    if gapOver last now then { p with assembler := .idle, finished := p.finished ++ [gapRequest chars] } else p
  | .ignoring last => if gapOver last now then { p with assembler := .idle } else p

/-- A character of a request in progress (R166): the body length decides, as soon as it stands, how many characters follow, or that the rest is ignored. -/
def DispatcherPort.gather (p : DispatcherPort) (now : Nat) (chars : List Byte) (spoiled : Bool) : DispatcherPort :=
  if chars.length < 2 then { p with assembler := .gathering chars spoiled now }
  else if 16 < byteAt chars 1 then
    { p with assembler := .ignoring now, finished := p.finished ++ [gapRequest chars] }
  else if chars.length < 3 + byteAt chars 1 then { p with assembler := .gathering chars spoiled now }
  else { p with assembler := .idle, finished := p.finished ++ [judgeRequest spoiled chars] }

/-- A character is taken by the request assembler as it stands (R165, R166). -/
def DispatcherPort.takeChar (p : DispatcherPort) (now : Nat) (char : Byte) (stopFound : Bool) : DispatcherPort :=
  match p.assembler with
  | .idle => if char = startByte then { p with assembler := .gathering [] (!stopFound) now } else p
  | .gathering chars spoiled _ => p.gather now (chars ++ [char]) (spoiled || !stopFound)
  | .ignoring _ => { p with assembler := .ignoring now }

/-- REQUEST_CHARACTER_TAKEN (R166). -/
def requestCharacterTaken (char : Byte) (stopFound : Bool) (s : State) : State :=
  { s with port := (s.port.settleGap s.now).takeChar s.now char stopFound }

/-- REQUEST_COMPLETE (R167): the oldest finished request is offered to the request queue. -/
def requestComplete (s : State) : State :=
  match s.port.finished with
  | [] => s
  | r :: rest => { s with port := { s.port with finished := rest }.offer r }

/-- Everything finished is offered, in order (R167). -/
def DispatcherPort.offerAll (p : DispatcherPort) : DispatcherPort :=
  p.finished.foldl .offer { p with finished := [] }

/-- REQUEST_GAP_TIMEOUT (R166): 100 ms have passed; the request ends as malformed and is offered, or the ignoring ends. -/
def requestGapTimeout (s : State) : State :=
  match s.port.assembler with
  | .gathering chars _ last =>
    if last + Config.requestGapTicks ≤ s.now then
      { s with port := { s.port.offerAll with assembler := .idle }.offer (gapRequest chars) }
    else s
  | .ignoring last =>
    if last + Config.requestGapTicks ≤ s.now then { s with port := { s.port with assembler := .idle } } else s
  | .idle => s

/-! ### The request service (R168, R169) -/

/-- A dump is active (R175). -/
def DumpEngine.active : DumpEngine → Bool
  | .none => false
  | _ => true

/-- The free places of the report queue that a request needs (R168). -/
def DispatcherPort.placesFor (p : DispatcherPort) : Request → Nat
  | .dump _ | .next => 2
  | .view _ _ | .rejoin => if p.dump.active then 2 else 1
  | _ => 1

/-- The request the service takes now (R168, R169, R180): the head, while the service is FREE, the station has left LOADING, no DUMP-END waits, and the report queue has the room. -/
def State.served (s : State) : Option Request :=
  match s.port.service, s.port.requests with
  | .free, r :: _ =>
    if s.loader.state ≠ .loading ∧ s.port.dumpEndWaiting = false ∧
        s.port.reports.length + s.port.placesFor r ≤ Config.reportPlaces then some r
    else none
  | _, _ => none

/-- The head request leaves the queue as the service takes it (R167). -/
def State.takeRequest (s : State) : State := { s with port := { s.port with requests := s.port.requests.drop 1 } }

/-- The head request leaves the queue, answered by one report (R168). -/
def State.reply (s : State) (r : Report) : State :=
  { s with port := { s.port with requests := s.port.requests.drop 1 }.post r }

/-- A request other than an ACK is refused (R169, R209, R210). -/
def State.refuse (s : State) (q : Request) (reason : RefusalReason) : State :=
  s.reply (.refused q.typeCode reason 0 0)

/-- An active dump ends with a reason (R181). -/
def DispatcherPort.endDump (p : DispatcherPort) (reason : DumpEndReason) : DispatcherPort :=
  if p.dump.active then { p.post (.dumpEnd reason) with dump := .none } else p

/-- The number of roster entries in a state (R182). -/
def RosterUnit.count (u : RosterUnit) (st : PeerState) : Nat :=
  (u.entries.filter (fun e => decide (e.state = st))).length

/-- The STATUS-REPLY as it stands (R182, R209). -/
def State.statusBody (s : State) : StatusBody :=
  { state := s.loader.state
    station := s.loader.number
    runTag := s.origin.runTag
    tableFull := s.table.tableFull
    groupTableFull := s.table.groupTableFull
    groupClash := s.table.groupClash
    error := s.loader.error
    ownRecords := ownCount s.own s.table.cft
    peerRecords := peerCount s.own s.table.cft
    groupEntries := s.table.groups.length
    presentPeers := s.roster.count .present
    silentPeers := s.roster.count .silent
    failures := s.tx.failures
    counters := [s.rx.badFrames, s.rx.unknownKinds, s.rx.queued, s.rx.shed, s.rx.lost, s.table.old, s.table.moot,
      s.table.refusedInserts, s.table.evictions, s.origin.slips, s.tx.collisions, s.tx.abandoned,
      s.origin.acksIgnored, s.field.malformedBursts, s.port.dropped, s.port.discarded] }

/-- STATUS (R182). -/
def status (s : State) : State :=
  match s.served with
  | some .status => s.reply (.statusReply s.statusBody)
  | _ => s

/-- VIEW (R173): an active dump ends with FILTER-CHANGED, the filter and the watch switch are replaced, and VIEW-OK follows. -/
def view (s : State) : State :=
  match s.served with
  | some (.view f w) =>
    if s.loader.state = .halted then s.refuse (.view f w) .notReady
    else State.reply { s with port := { s.port.endDump .filterChanged with filter := f, watch := w } } .viewOk
  | _ => s

/-- A page build is offered and the request stays in service (R175, R178). -/
def State.offerPage (s : State) (src : DumpSource) (cur : Cursor) : State :=
  { s.takeRequest with port := { s.takeRequest.port with dump := .building src cur, service := .pageBuild } }

/-- DUMP (R175): a dump begins at the start, or is refused BUSY. -/
def dump (s : State) : State :=
  match s.served with
  | some (.dump src) =>
    if s.loader.state = .halted then s.refuse (.dump src) .notReady
    else
      match s.port.dump with
      | .none => s.offerPage src .start
      | _ => s.refuse (.dump src) .busy
  | _ => s

/-- NEXT (R178): the idle deadline is dropped and the next page build offered, or it is refused NO-DUMP. -/
def next (s : State) : State :=
  match s.served with
  | some .next =>
    if s.loader.state = .halted then s.refuse .next .notReady
    else
      match s.port.dump with
      | .opened src cur _ => s.offerPage src cur
      | .none => s.refuse .next .noDump
      | .building _ _ => s
  | _ => s

/-- STOP (R179): the dump ends with DUMP-END(STOPPED), its one reply, or STOP is refused NO-DUMP. -/
def stop (s : State) : State :=
  match s.served with
  | some .stop =>
    if s.loader.state = .halted then s.refuse .stop .notReady
    else
      match s.port.dump with
      | .opened _ _ _ => { s.takeRequest with port := s.takeRequest.port.endDump .stopped }
      | .none => s.refuse .stop .noDump
      | .building _ _ => s
  | _ => s

/-- The checks of R155, in order: the first that fails, or none. -/
def State.ackCheck (s : State) (origin point : Nat) (seen : Version) : Option RefusalReason :=
  if ¬(s.loader.state = .inStep ∨ (origin ≠ s.own ∧ s.loader.state = .mute)) then some .notReady
  else
    match findRecord s.table.cft ⟨origin, point⟩ with
    | none => some .noRecord
    | some r =>
      if r.state ≠ .opened then some .notOpen
      else if r.version ≠ seen then some .changed
      else if r.ackMark ≠ none then some .already
      else if origin = s.own then none
      else if (s.roster.find origin).map (·.state) ≠ some .present then some .originSilent
      else if s.origin.ackSlot.isSome then some .busy
      else none

/-- The run tag of a peer as the roster stores it (R157); every held record's origin has one (R115). -/
def State.peerTag (s : State) (n : Nat) : Word16 := ((s.roster.find n).bind (·.tag)).getD 0

/-- The ack slot is filled with an entry (R157, R158). -/
def State.fillAckSlot (s : State) (a : AckEntry) : State :=
  State.wake { s with origin := { s.origin with ackSlot := some a } }

/-- ACK (R155 to R157): refused by the first check that fails, handed to the Origin Unit, or placed in the ack slot with QUEUED. -/
def ack (s : State) : State :=
  match s.served with
  | some (.ack origin point seen) =>
    match s.ackCheck origin point seen with
    | some reason => s.reply (ackRefused reason origin point)
    | none =>
      if origin = s.own then
        { s.takeRequest with port := { s.takeRequest.port with service := .ownAck origin point seen } }
      else
        (s.reply (.ackReply origin point .queued)).fillAckSlot
          { origin := origin, point := point, seen := seen, tag := s.peerTag origin }
  | _ => s

/-- REJOIN (R183, R199): an active dump ends, the mute or the LISTENING timer stops, and the request stays in service while the Profile Loader carries out the sequence. -/
def rejoin (s : State) : State :=
  match s.served with
  | some .rejoin =>
    if s.loader.state = .halted then s.refuse .rejoin .notReady
    else
      let t := s.takeRequest
      { t with
        loader := { t.loader with rejoin := some { transmitterDone := false, tableDone := false }, listenEnd := none }
        tx := { t.tx with muteEnd := none }
        port := { t.port.endDump .rejoin with service := .rejoin } }
  | _ => s

/-- MALFORMED_REQUEST (R166, R169, R210): answered REFUSED(MALFORMED) when its turn comes. -/
def malformedRequest (s : State) : State :=
  match s.served with
  | some (.malformed t) => s.refuse (.malformed t) .malformed
  | _ => s

/-! ### Reports out (R165, R170, R172, R180) -/

/-- READY_ASSERTED (R165): the next character of the report at the head is sent. -/
def readyAsserted (s : State) : State :=
  match s.port.reports with
  | [] => s
  | r :: _ =>
    match r.chars[s.port.sent]? with
    | some c => { s with port := { s.port with sent := s.port.sent + 1, lastOut := some c } }
    | none => s

/-- The report is a PAGE. -/
def Report.isPage : Report → Bool
  | .page _ => true
  | _ => false

/-- The idle deadline is set at the delivery of the dump's latest PAGE (R180): of the last PAGE that was posted. -/
def DispatcherPort.pageDelivered (p : DispatcherPort) (now : Nat) (r : Report) : DispatcherPort :=
  match p.dump with
  | .opened src cur _ =>
    if r.isPage && !p.reports.any Report.isPage then
      { p with dump := .opened src cur (some (now + Config.dumpIdleTicks)) } else p
  | _ => p

/-- A DUMP-END that waits for room is posted at a departure (R180). -/
def DispatcherPort.postWaiting (p : DispatcherPort) : DispatcherPort :=
  if p.dumpEndWaiting then { p.post (.dumpEnd .timedOut) with dumpEndWaiting := false } else p

/-- RESYNC is posted while it is pending and the occupancy is below the notice limit (R172). -/
def DispatcherPort.postResync (p : DispatcherPort) : DispatcherPort :=
  if p.resync && decide (p.reports.length < p.limit) then { p.post .resync with resync := false } else p

/-- REPORT_DELIVERED (R170, R172, R180): the last character of the head report has been sent, and it leaves the queue. -/
def reportDelivered (s : State) : State :=
  match s.port.reports with
  | [] => s
  | r :: rest =>
    if s.port.sent = r.chars.length then
      { s with port :=
        (({ s.port with reports := rest, sent := 0 }.pageDelivered s.now r).postWaiting).postResync }
    else s

/-- The places of the report queue kept for the replies of the request in service (R168: the room found is still there when the replies are posted; log 18). -/
def DispatcherPort.keptPlaces (p : DispatcherPort) : Nat :=
  match p.service with
  | .free => 0
  | .pageBuild => 2
  | .ownAck _ _ _ => 1
  | .rejoin => 1

/-- DUMP_IDLE_TIMEOUT (R180): the dump ends with DUMP-END(TIMED-OUT), which waits where the report queue is full. -/
def dumpIdleTimeout (s : State) : State :=
  match s.port.dump with
  | .opened _ _ idle =>
    if due idle s.now then
      if s.port.reports.length + s.port.keptPlaces < Config.reportPlaces then
        { s with port := s.port.endDump .timedOut }
      else { s with port := { s.port with dump := .none, dumpEndWaiting := true } }
    else s
  | _ => s

/-! ### Meanings -/

/-- REQUEST_CHARACTER_TAKEN. -/
def execRequestCharacterTaken (char : Byte) (stopFound : Bool) (s : State) : Outcome :=
  .next (requestCharacterTaken char stopFound s)

/-- REQUEST_COMPLETE. -/
def execRequestComplete (s : State) : Outcome := .next (requestComplete s)

/-- REQUEST_GAP_TIMEOUT. -/
def execRequestGapTimeout (s : State) : Outcome := .next (requestGapTimeout s)

/-- STATUS. -/
def execStatus (s : State) : Outcome := .next (status s)

/-- VIEW. -/
def execView (s : State) : Outcome := .next (view s)

/-- DUMP. -/
def execDump (s : State) : Outcome := .next (dump s)

/-- NEXT. -/
def execNext (s : State) : Outcome := .next (next s)

/-- STOP. -/
def execStop (s : State) : Outcome := .next (stop s)

/-- ACK. -/
def execAck (s : State) : Outcome := .next (ack s)

/-- REJOIN. -/
def execRejoin (s : State) : Outcome := .next (rejoin s)

/-- MALFORMED_REQUEST. -/
def execMalformedRequest (s : State) : Outcome := .next (malformedRequest s)

/-- READY_ASSERTED. -/
def execReadyAsserted (s : State) : Outcome := .next (readyAsserted s)

/-- REPORT_DELIVERED. -/
def execReportDelivered (s : State) : Outcome := .next (reportDelivered s)

/-- DUMP_IDLE_TIMEOUT. -/
def execDumpIdleTimeout (s : State) : Outcome := .next (dumpIdleTimeout s)

end Sys2Proof.Machine
end

