-- ==== Sys2Proof/Machine/Startup.lean ====
section
/-!
DEFINITION. The Profile Loader (chapter 9): RESET, the profile read and its checks, the completion of a load, the parts and the completion of a REJOIN, and the entry to IN-STEP.
-/
namespace Sys2Proof.Machine

/-! ### RESET and the profile read (R186, R190, R193 to R196) -/

/-- RESET (R193): every block takes its start values. The run-tag counter is not cleared (R196), so the free values go on (log 6). -/
def reset (s : State) : State := { State.reset with pending := s.pending, freeIx := s.freeIx }

/-- The format word of an LF-64 profile image (R211). -/
def formatWord : Nat := 0x5A31

/-- The length of an LF-64 profile image after the header (R211). -/
def imageLength : Nat := 649

/-- Checks 1 and 2 of R190. -/
def headerChecks (header : List Byte) : List (Bool × ProfileError) :=
  [(decide (wordAt header 0 = formatWord), .format), (decide (wordAt header 2 = imageLength), .length)]

/-- The station enters HALTED with a code (R195); `number` is what STATUS-REPLY reports (R191). -/
def State.halt (s : State) (e : ProfileError) (number : Nat) : State :=
  { s with loader := { s.loader with state := .halted, error := e, number := number, reading := .done } }

/-- PROFILE_HEADER_TAKEN (R186, R190): the format word and the length are checked. -/
def profileHeaderTaken (header : List Byte) (s : State) : State :=
  if s.loader.state = .loading ∧ s.loader.reading = .header then
    match firstError (headerChecks header) with
    | .none => { s with loader := { s.loader with reading := .image (BitVec.ofNat 16 (wordAt header 4)) } }
    | e => s.halt e 0
  else s

/-- The length of LISTENING in ticks (R197). -/
def listeningTicks (W station : Nat) : Nat := (W + station % 16) * Config.ticksPerSecond

/-- The port takes the console rate and the notice limit, and a request still being gathered is discarded (R165, R166, R194). -/
def DispatcherPort.takeProfile (p : DispatcherPort) (f : Profile) : DispatcherPort :=
  { p with
    rate := f.consoleRate
    limit := f.noticeLimit
    assembler := .idle
    discarded :=
      match p.assembler with
      | .gathering _ _ _ => p.discarded + 1
      | _ => p.discarded }

/-- The load completes (R194, R196, R197). The line is read from now on, and its idle time runs from now (log 4). -/
def State.loadCompletes (s : State) (f : Profile) (duskOn : Bool) (levels : BitVec 64) : State :=
  { s with
    freeIx := s.freeIx + 1
    loader := { s.loader with
      state := .listening, error := .none, profile := some f, number := f.station, reading := .done
      listenEnd := some (s.now + listeningTicks f.window f.station) }
    field := s.field.begin f s.now duskOn levels
    origin := { s.origin with runTag := some (Config.runTagCounter s.freeIx) }
    rx := { s.rx with lastHeard := s.rx.clock }
    port := s.port.takeProfile f }

/-- PROFILE_READ_DONE (R190, R194, R195): the image is checked in order, and the load completes or the station halts. -/
def profileReadDone (image : List Byte) (duskOn : Bool) (levels : BitVec 64) (s : State) : State :=
  match s.loader.state, s.loader.reading with
  | .loading, .image crc =>
    match firstError (imageChecks crc image) with
    | .none => s.loadCompletes (readProfile image) duskOn levels
    | e => s.halt e (reportedNumber e image)
  | _, _ => s

/-! ### REJOIN (R104, R152, R199 to R202) -/

/-- No attempt is on the line: none is being sent, and of one that failed the last character has ended and the echo run has closed (R143, R152). -/
def State.lineFree (s : State) : Bool :=
  !s.tx.state.isSending && s.outputFree &&
  (match s.rx.run with
   | some r => !r.echo
   | none => true)

/-- The Origin Unit's part of a REJOIN (R104, R200). -/
def OriginUnit.rejoinPart (o : OriginUnit) : OriginUnit :=
  { o with changeQueue := [], ackSlot := none, refreshDue := none, pointer := 0, stepDue := none }

/-- The Line Transmitter's part of a REJOIN (R152, R200). -/
def LineTransmitter.rejoinPart (t : LineTransmitter) : LineTransmitter :=
  { t with state := .idle, current := none, failures := 0, muteEnd := none }

/-- TRANSMITTER_REJOIN_PART (R104, R152, R200). -/
def transmitterRejoinPart (s : State) : State :=
  match s.loader.rejoin with
  | some { transmitterDone := false, tableDone := d } =>
    if s.lineFree then
      { s with
        loader := { s.loader with rejoin := some { transmitterDone := true, tableDone := d } }
        tx := s.tx.rejoinPart
        origin := s.origin.rejoinPart }
    else s
  | _ => s

/-- The own part of the CFT holds a SUPPLY record for a group in a state (R54). -/
def supplyStands (cft : List Record) (g : Nat) (st : OriginState) : Bool :=
  cft.any (fun r => decide (r.kind = .supply) && decide (r.group = g) && decide (r.state = st))

/-- The entry a group has after the recompute (R54, steps 1 to 3); none where it has none or is removed. -/
def rejoinEntry (own deadline : Nat) (ownCft : List Record) (groups : List GroupEntry) (g : Nat) :
    Option GroupEntry :=
  if supplyStands ownCft g .opened then some ⟨g, .down own⟩
  else if supplyStands ownCft g .cleared then
    match findEntry groups g with
    | some { state := .down _, .. } => some ⟨g, .returning deadline⟩
    | e => e
  else none

/-- The group table recomputed from own records (R54), in ascending group number. -/
def rejoinGroups (own deadline : Nat) (ownCft : List Record) (groups : List GroupEntry) : List GroupEntry :=
  (mergeNat (groups.map (·.group)) (supervisedGroups ownCft)).filterMap (rejoinEntry own deadline ownCft groups)

/-- The clears reported by the Table Engine's part (R31, R55). -/
def TableEngine.rejoinClears (te : TableEngine) : List StationReport :=
  (if te.tableFull then [tableReport .tableFull false] else []) ++
  (if te.groupTableFull then [tableReport .groupTableFull false] else []) ++
  (if te.groupClash then [tableReport .groupClash false] else [])

/-- The Table Engine after its part (R31, R54, R55): own records only, the groups recomputed, the flags clear, and only the expiries that still stand waiting. -/
def TableEngine.rejoinPart (te : TableEngine) (own deadline W : Nat) : TableEngine :=
  let ownCft := te.cft.filter (fun r => decide (r.key.origin = own))
  let te' := { te with
    cft := ownCft
    groups := rejoinGroups own deadline ownCft te.groups
    tableFull := false
    groupTableFull := false
    groupClash := false }
  { te' with timers := te.timers.filter (TimerClaim.stands W .start te') }

/-- A page build that waits is discarded (R31). -/
def DumpEngine.discardBuild : DumpEngine → DumpEngine
  | .building _ _ => .none
  | d => d

/-- TABLE_ENGINE_REJOIN_PART (R31, R54, R55, R129, R200): one operation, its notices and reports handed on as at the close of a claim. -/
def tableEngineRejoinPart (s : State) : State :=
  match s.loader.rejoin with
  | some { transmitterDone := d, tableDone := false } =>
    let te := s.table.rejoinPart s.own (s.nowSec + s.returnGrace) s.window
    let before := s.table.groups.map (·.group)
    let after := te.groups.map (·.group)
    let signals := holdSignals (after.filter (fun g => !before.contains g)) (before.filter (fun g => !after.contains g))
    { s with
      loader := { s.loader with rejoin := some { transmitterDone := d, tableDone := true } }
      table := te
      roster := .start
      rx := { s.rx with queue := [] }
      origin := { s.origin with stationIn := s.origin.stationIn ++ s.table.rejoinClears
                                holdIn := s.origin.holdIn ++ signals }
      port := { s.port with dump := s.port.dump.discardBuild }.gateAll
        (groupNotices s.table.groups te.groups te.cft) }
  | _ => s

/-- The station conditions that the REJOIN cleared have reached the table (R183, log 30): no report of the Table Engine waits at the Origin Unit, and no own update of slot 0 waits. -/
def State.clearsTaken (s : State) : Bool :=
  !s.origin.stationIn.any (fun r => decide (r.source = .tableEngine)) && !s.origin.ownUpdates.contains 0

/-- REJOIN_COMPLETE (R183, R202): once the parts are done and the cleared conditions stand in the table, so that their notices stand ahead of REJOIN-OK, the station enters LISTENING with a new timer, REJOIN-OK is posted, and the request service is FREE. -/
def rejoinComplete (s : State) : State :=
  match s.loader.rejoin with
  | some { transmitterDone := true, tableDone := true } =>
    if s.clearsTaken then
      { s with
        loader := { s.loader with state := .listening, rejoin := none
                                  listenEnd := some (s.now + listeningTicks s.window s.own) }
        port := { s.port.post .rejoinOk with service := .free } }
    else s
  | _ => s

/-! ### Entry to IN-STEP (R102, R198) -/

/-- The slots that hold a record, ascending (R102). -/
def OriginUnit.heldSlots (o : OriginUnit) : List Nat := allPoints.filter (fun k => (o.slot k).record.isSome)

/-- The record of a slot is deferred (R94). -/
def OriginUnit.slotDeferred (o : OriginUnit) (k : Nat) : Bool :=
  match (o.slot k).record with
  | some r => o.deferred r
  | none => false

/-- The change queue at entry to IN-STEP (R102). -/
def State.entryQueue (s : State) : List Nat :=
  0 :: (s.origin.heldSlots.filter s.urgent ++
    s.origin.heldSlots.filter (fun k => !s.urgent k && !s.origin.slotDeferred k))

/-- LISTENING_TIMER_END (R97, R102, R198). -/
def listeningTimerEnd (s : State) : State :=
  if s.loader.state = .listening ∧ due s.loader.listenEnd s.now then
    State.wake { s with
      loader := { s.loader with state := .inStep, listenEnd := none }
      origin := { s.origin with changeQueue := s.entryQueue, pointer := 0
                                stepDue := some (s.now + stepInterval s.window) } }
  else s

/-! ### Meanings -/

/-- RESET. -/
def execReset (s : State) : Outcome := .next (reset s)

/-- PROFILE_HEADER_TAKEN. -/
def execProfileHeaderTaken (header : List Byte) (s : State) : Outcome :=
  answer (headerOk header) (profileHeaderTaken header s)

/-- PROFILE_READ_DONE. -/
def execProfileReadDone (image : List Byte) (duskOn : Bool) (levels : BitVec 64) (s : State) : Outcome :=
  answer (imageOk image) (profileReadDone image duskOn levels s)

/-- TRANSMITTER_REJOIN_PART. -/
def execTransmitterRejoinPart (s : State) : Outcome := .next (transmitterRejoinPart s)

/-- TABLE_ENGINE_REJOIN_PART. -/
def execTableEngineRejoinPart (s : State) : Outcome := .next (tableEngineRejoinPart s)

/-- REJOIN_COMPLETE. -/
def execRejoinComplete (s : State) : Outcome := .next (rejoinComplete s)

/-- LISTENING_TIMER_END. -/
def execListeningTimerEnd (s : State) : Outcome := .next (listeningTimerEnd s)

end Sys2Proof.Machine
end

