-- ==== Sys2Proof/Machine/Dispatch.lean ====
section
/-!
DEFINITION. The dispatch of every command to its meaning, one arm per row of the opcode table.
-/
namespace Sys2Proof.Machine

/-- The effect of a command on everything but the queue. -/
def exec (i : Instr) (s : State) : Host.Outcome State Fault Refusal :=
  match i with
  | .reset => Sys2Proof.Machine.execReset s
  | .profileHeaderTaken header => Sys2Proof.Machine.execProfileHeaderTaken header s
  | .profileReadDone image duskOn levels => Sys2Proof.Machine.execProfileReadDone image duskOn levels s
  | .duskChange on => Sys2Proof.Machine.execDuskChange on s
  | .duskSettleEnd => Sys2Proof.Machine.execDuskSettleEnd s
  | .lampCurrentChange point present => Sys2Proof.Machine.execLampCurrentChange point present s
  | .outConfirm point => Sys2Proof.Machine.execOutConfirm point s
  | .outClear point => Sys2Proof.Machine.execOutClear point s
  | .dayburnConfirm point => Sys2Proof.Machine.execDayburnConfirm point s
  | .dayburnClear point => Sys2Proof.Machine.execDayburnClear point s
  | .cyclingWindowExpiry point => Sys2Proof.Machine.execCyclingWindowExpiry point s
  | .loopGateEnd point edges => Sys2Proof.Machine.execLoopGateEnd point edges s
  | .loopBaselinePeriodEnd point => Sys2Proof.Machine.execLoopBaselinePeriodEnd point s
  | .chatterWindowExpiry point => Sys2Proof.Machine.execChatterWindowExpiry point s
  | .signBurstEnd point => Sys2Proof.Machine.execSignBurstEnd point s
  | .noHeartbeat point => Sys2Proof.Machine.execNoHeartbeat point s
  | .supplyContactChange point closed => Sys2Proof.Machine.execSupplyContactChange point closed s
  | .supplyLossConfirm point => Sys2Proof.Machine.execSupplyLossConfirm point s
  | .supplyRestoreConfirm point => Sys2Proof.Machine.execSupplyRestoreConfirm point s
  | .conditionReport point => Sys2Proof.Machine.execConditionReport point s
  | .stationConditionReport source => Sys2Proof.Machine.execStationConditionReport source s
  | .flapRelease slot => Sys2Proof.Machine.execFlapRelease slot s
  | .ownLingerEnd slot => Sys2Proof.Machine.execOwnLingerEnd slot s
  | .holdBegunSignal => Sys2Proof.Machine.execHoldBegunSignal s
  | .holdEndedSignal => Sys2Proof.Machine.execHoldEndedSignal s
  | .ownAckDecision => Sys2Proof.Machine.execOwnAckDecision s
  | .acknowledgeAtOrigin => Sys2Proof.Machine.execAcknowledgeAtOrigin s
  | .walkStep => Sys2Proof.Machine.execWalkStep s
  | .lineCharacterHeard char stopFound dt => Sys2Proof.Machine.execLineCharacterHeard char stopFound dt s
  | .echoTimeout dt => Sys2Proof.Machine.execEchoTimeout dt s
  | .runClose dt => Sys2Proof.Machine.execRunClose dt s
  | .accessMoment dt => Sys2Proof.Machine.execAccessMoment dt s
  | .clashTimerEnd => Sys2Proof.Machine.execClashTimerEnd s
  | .muteEnd => Sys2Proof.Machine.execMuteEnd s
  | .lineMuteClearTimerEnd => Sys2Proof.Machine.execLineMuteClearTimerEnd s
  | .silenceDeadline station => Sys2Proof.Machine.execSilenceDeadline station s
  | .ownUpdate => Sys2Proof.Machine.execOwnUpdate s
  | .lingerDeadlineDue origin point => Sys2Proof.Machine.execLingerDeadlineDue origin point s
  | .lingerExpiry => Sys2Proof.Machine.execLingerExpiry s
  | .graceDeadlineDue group => Sys2Proof.Machine.execGraceDeadlineDue group s
  | .graceExpiry => Sys2Proof.Machine.execGraceExpiry s
  | .rosterEventSilent => Sys2Proof.Machine.execRosterEventSilent s
  | .rosterEventPresent => Sys2Proof.Machine.execRosterEventPresent s
  | .recordFrame => Sys2Proof.Machine.execRecordFrame s
  | .rollFrame => Sys2Proof.Machine.execRollFrame s
  | .acknowledgeFrame => Sys2Proof.Machine.execAcknowledgeFrame s
  | .pageBuild => Sys2Proof.Machine.execPageBuild s
  | .requestComplete => Sys2Proof.Machine.execRequestComplete s
  | .requestGapTimeout => Sys2Proof.Machine.execRequestGapTimeout s
  | .status => Sys2Proof.Machine.execStatus s
  | .view => Sys2Proof.Machine.execView s
  | .dump => Sys2Proof.Machine.execDump s
  | .next => Sys2Proof.Machine.execNext s
  | .stop => Sys2Proof.Machine.execStop s
  | .ack => Sys2Proof.Machine.execAck s
  | .rejoin => Sys2Proof.Machine.execRejoin s
  | .malformedRequest => Sys2Proof.Machine.execMalformedRequest s
  | .transmitterRejoinPart => Sys2Proof.Machine.execTransmitterRejoinPart s
  | .tableEngineRejoinPart => Sys2Proof.Machine.execTableEngineRejoinPart s
  | .rejoinComplete => Sys2Proof.Machine.execRejoinComplete s
  | .listeningTimerEnd => Sys2Proof.Machine.execListeningTimerEnd s
  | .readyAsserted => Sys2Proof.Machine.execReadyAsserted s
  | .reportDelivered => Sys2Proof.Machine.execReportDelivered s
  | .dumpIdleTimeout => Sys2Proof.Machine.execDumpIdleTimeout s
  | .signPulse point => Sys2Proof.Machine.execSignPulse point s
  | .requestCharacterTaken char stopFound => Sys2Proof.Machine.execRequestCharacterTaken char stopFound s

end Sys2Proof.Machine
end

