-- ==== Sys2Proof/Safety.lean ====
section
/-!
DEFINITION. The properties that every step keeps: the bounds and orders the manual gives the queues and tables, and what ties the blocks together. Each is a proposition over a state, and decidable.
-/
namespace Sys2Proof.Machine

/-! ### Profile Loader (R192, R193, R195) -/

/-- No profile is in force exactly in LOADING and HALTED, and the tables and the change queue are then empty. -/
abbrev LoaderSafe (s : State) : Prop :=
  (s.loader.profile = none ↔ s.loader.state = .loading ∨ s.loader.state = .halted) ∧
  (s.loader.profile = none →
    s.loader.rejoin = none ∧ s.table.cft = [] ∧ s.table.groups = [] ∧ s.origin.changeQueue = [] ∧
      s.roster.entries = [])

/-! ### Dispatcher Port (R167, R168, R171, R199) -/

/-- A page build is offered. -/
abbrev DumpEngine.isBuilding (d : DumpEngine) : Bool :=
  match d with
  | .building _ _ => true
  | _ => false

/-- The two queues of the port keep their bounds, with the places that the request in service still needs. -/
abbrev PortSafe (s : State) : Prop :=
  s.port.limit ≤ 60 ∧ s.port.requests.length ≤ Config.requestPlaces ∧
  s.port.reports.length + s.port.keptPlaces ≤ Config.reportPlaces ∧
  (s.port.dump.isBuilding = true → s.port.service = .pageBuild) ∧
  (s.loader.rejoin.isSome = true → s.port.service = .rejoin)

/-! ### Records and slots (R1, R82, R83, R89, R93, R95, R97, R153) -/

/-- What R1 and R153 say of every record: cleared at is present exactly on a CLEARED record, an ack mark only on an OPEN one, occurrences is 1 to 255, and a condition is held. -/
abbrev Record.sound (r : Record) : Prop :=
  (r.state = .cleared ↔ r.clearedAt.isSome = true) ∧ (r.ackMark.isSome = true → r.state = .opened) ∧
  1 ≤ r.occurrences ∧ r.occurrences ≤ 255 ∧ r.conds ≠ []

/-- A slot: the record's version is the counter's value, own records are FRESH with no last heard, an empty slot is not announced, and the raise history holds at most four times. -/
abbrev OwnSlot.sound (sl : OwnSlot) : Prop :=
  sl.history.length ≤ 4 ∧ (sl.record = none → sl.announced = false) ∧
  ∀ r ∈ sl.record, r.version = sl.version ∧ r.freshness = .fresh ∧ r.lastHeard = none ∧ r.sound

/-- The change queue names each slot at most once, and every urgent entry stands ahead of every ordinary entry (R95). -/
abbrev State.queueOrdered (s : State) : Prop :=
  s.origin.changeQueue.Nodup ∧ (∀ k ∈ s.origin.changeQueue, k ≤ 64) ∧
  s.origin.changeQueue =
    s.origin.changeQueue.filter s.urgent ++ s.origin.changeQueue.filter (fun k => !s.urgent k)

/-- The Origin Unit keeps 65 sound slots, an ordered change queue, at most one own update for a slot, and a pointer of 0 to 64. -/
abbrev OriginSafe (s : State) : Prop :=
  s.origin.slots.length = 65 ∧ (∀ sl ∈ s.origin.slots, sl.sound) ∧ s.queueOrdered ∧
  s.origin.ownUpdates.Nodup ∧ (∀ k ∈ s.origin.ownUpdates, k ≤ 64) ∧ s.origin.pointer ≤ 64

/-! ### The tables (R2, R32, R34, R37) -/

/-- The CFT is in ascending key order with points of 0 to 64 and sound records, at most 959 of them peer records; the group table is in ascending group number with at most 128 entries. -/
abbrev TableSafe (s : State) : Prop :=
  (s.table.cft.map (·.key)).Pairwise (fun a b => a.lt b = true) ∧
  (∀ r ∈ s.table.cft, r.key.point ≤ 64 ∧ r.sound) ∧
  peerCount s.own s.table.cft ≤ Config.peerPlaces ∧
  (s.table.groups.map (·.group)).Pairwise (· < ·) ∧
  s.table.groups.length ≤ Config.groupPlaces

/-- Each entry is DOWN exactly when its group has an OPEN supervising record, with the lowest origin among them as supervisor, and a group lacks its entry only while GROUP-TABLE-FULL is set (R34, R37). -/
abbrev GroupsMatch (s : State) : Prop :=
  (∀ e ∈ s.table.groups, e.state.supervisor = lowestSupervisor s.table.cft e.group) ∧
  (s.table.groupTableFull = false → lackingGroups s.table = [])

/-! ### The line and the roster (R107, R111, R114, R136, R147, R200) -/

/-- The roster is in ascending station order, without this station, with at most one event waiting for a station. -/
abbrev RosterSafe (s : State) : Prop :=
  (s.roster.entries.map (·.station)).Pairwise (· < ·) ∧
  (∀ e ∈ s.roster.entries, stationOk e.station = true ∧ e.station ≠ s.own) ∧
  (s.roster.events.map (·.station)).Nodup

/-- The receive queue and the failure counts keep their bounds. -/
abbrev LineSafe (s : State) : Prop :=
  s.rx.queue.length ≤ Config.receivePlaces ∧ s.tx.failures ≤ 16 ∧ ∀ c ∈ s.tx.current, c.fails ≤ 7

/-- Outside IN-STEP the transmitter is IDLE (R136). During a REJOIN the LISTENING and mute timers are stopped (R199), and once the transmitter's part is done nothing is pending for it (R104, R200). -/
abbrev QuietSafe (s : State) : Prop :=
  (s.loader.state ≠ .inStep → s.tx.state = .idle) ∧
  ∀ r ∈ s.loader.rejoin, s.loader.listenEnd = none ∧ s.tx.muteEnd = none ∧
    (r.transmitterDone = true →
      s.tx.state = .idle ∧ s.origin.changeQueue = [] ∧ s.origin.ackSlot = none ∧ s.origin.refreshDue = none ∧
        s.origin.stepDue = none)

/-! ### Time (R56) -/

/-- The tick count runs 0 to 99. -/
abbrev TimeSafe (s : State) : Prop := s.time.tick < Config.ticksPerSecond

/-- Everything that every step keeps. -/
abbrev Safe (s : State) : Prop :=
  LoaderSafe s ∧ PortSafe s ∧ OriginSafe s ∧ TableSafe s ∧ GroupsMatch s ∧ RosterSafe s ∧ LineSafe s ∧
    QuietSafe s ∧ TimeSafe s

end Sys2Proof.Machine
end

