-- ==== Sys2Proof/Certificates/Slice0/Obligations.lean ====
section
/-!
DEFINITION. The statements for the provers. A log number names a choice of the model that a clause rests on.
-/
open Sys2Proof Sys2Proof.Machine

/-! ### The block and its queue -/

/-- A step takes the front command and runs it with the queue's rest. -/
def Obligations.StepRunsTheFrontCommand : Prop :=
  ∀ (c : Instr) (rest : List Instr) (s : State),
    step { s with pending := c :: rest } = exec c { s with pending := rest }

/-- With no command waiting, a step is one tick and changes nothing but the Timebase (R56, log 1). -/
def Obligations.IdleStepPassesOneTick : Prop :=
  ∀ s : State, s.pending = [] → s.time.tick < 100 →
    ∃ t, step s = .next t ∧ t = { s with time := t.time } ∧ t.now = s.now + 1 ∧ t.time.tick < 100

/-- Every command that names an input of the part completes and leaves the queue as it is; every other command faults (log 16). Points are numbered 1 to 64, slots 0 to 64, stations 1 to 250, groups with entries 1 to 511; the header has 6 bytes and the image 649. -/
def Obligations.WellFormedCommandsComplete : Prop :=
  (∀ (i : Instr) (s : State),
    (i.wellFormed = true → ∃ t, exec i s = .next t ∧ t.pending = s.pending) ∧
    (i.wellFormed = false → exec i s = .fault .illFormedCommand)) ∧
  (∀ (n : Nat) (b : List Byte),
    (pointOk n = true ↔ 1 ≤ n ∧ n ≤ 64) ∧ (slotOk n = true ↔ n ≤ 64) ∧ (stationOk n = true ↔ 1 ≤ n ∧ n ≤ 250) ∧
    (groupOk n = true ↔ 1 ≤ n ∧ n ≤ 511) ∧ (headerOk b = true ↔ b.length = 6) ∧ (imageOk b = true ↔ b.length = 649))

/-! ### RESET and the profile -/

/-- RESET gives the Dispatcher Port the start values of R184. -/
def Obligations.ResetGivesPortStartValues : Prop :=
  ∀ s : State, ∃ t, exec .reset s = .next t ∧
    t.port.rate = 9600 ∧ t.port.assembler = .idle ∧ t.port.requests = [] ∧ t.port.service = .free ∧
    t.port.reports = [] ∧ t.port.sent = 0 ∧
    t.port.filter = ⟨1, [.lamp, .loop, .sign, .supply, .station], true, false, true⟩ ∧ t.port.watch = false ∧
    t.port.limit = 56 ∧ t.port.resync = false ∧ t.port.dump = .none ∧ t.port.dropped = 0 ∧ t.port.discarded = 0

/-- RESET gives every other block its start values (R31, R56, R81, R103, R128, R151, R193), whatever was in progress, and begins the read of the profile memory: it is selected, and the read command 03 hexadecimal with the address 0 has been sent (R186). -/
def Obligations.ResetGivesStartValues : Prop :=
  ∀ s : State, ∃ t, exec .reset s = .next t ∧ t.pending = s.pending ∧
    t.time.tick = 0 ∧ t.time.seconds = 0 ∧
    t.loader.state = .loading ∧ t.loader.error = .none ∧ t.loader.profile = none ∧ t.loader.listenEnd = none ∧
    t.loader.rejoin = none ∧ t.loader.reading = .header ∧ t.loader.selected = true ∧ t.loader.spiOut = [0x03, 0x00, 0x00] ∧
    (∀ p, t.field.monitor p = .off) ∧ t.field.malformedBursts = 0 ∧
    (∀ k, t.origin.slot k = ⟨none, 0, false, [], [], none⟩) ∧ t.origin.changeQueue = [] ∧
    t.origin.ownUpdates = [] ∧ t.origin.pointer = 0 ∧ t.origin.stepDue = none ∧ t.origin.refreshDue = none ∧
    t.origin.slips = 0 ∧ t.origin.held = [] ∧ t.origin.ackSlot = none ∧ t.origin.runTag = none ∧
    t.origin.acksIgnored = 0 ∧
    t.table = ⟨[], [], [], 0, 0, 0, 0, false, false, false⟩ ∧ t.roster.entries = [] ∧ t.roster.events = [] ∧
    t.rx.run = none ∧ t.rx.queue = [] ∧ t.rx.badFrames = 0 ∧ t.rx.unknownKinds = 0 ∧ t.rx.queued = 0 ∧
    t.rx.shed = 0 ∧ t.rx.lost = 0 ∧ t.rx.clashEnd = none ∧
    t.tx = ⟨.idle, none, 0, 0, 0, 0, none, none, false, none⟩

/-- The header's format word and length are checked in this order, and a header that passes starts the read of the image; an image that fails a check halts the station with the first failing check's code, the number reported only from the range checks on, and nothing else changed. The checks of the image, in order: the CRC, the station number, the ranges of the station-wide settings, the entries point by point with their fields in order, and no two SUPPLY points of one group (R59, R186 to R188, R190, R191, R195, R211, R212). Outside LOADING, or once the header has been read, a header changes nothing (R192; log 2). -/
def Obligations.ProfileIsChecked : Prop :=
  (∀ (b : List Byte) (s : State), b.length = 6 → s.loader.state = .loading → s.loader.reading = .header →
      (wordAt b 0 ≠ 0x5A31 → exec (.profileHeaderTaken b) s =
        .next { s with loader := { s.loader with state := .halted, error := .format, number := 0, reading := .done } }) ∧
      (wordAt b 0 = 0x5A31 → wordAt b 2 ≠ 649 → exec (.profileHeaderTaken b) s =
        .next { s with loader := { s.loader with state := .halted, error := .length, number := 0, reading := .done } }) ∧
      (wordAt b 0 = 0x5A31 → wordAt b 2 = 649 → exec (.profileHeaderTaken b) s =
        .next { s with loader := { s.loader with reading := .image (BitVec.ofNat 16 (wordAt b 4)) } })) ∧
  (∀ (b : List Byte) (duskOn : Bool) (levels : BitVec 64) (crc : Word16) (s : State),
      b.length = 649 → s.loader.state = .loading → s.loader.reading = .image crc →
      (crc16 b ≠ crc → exec (.profileReadDone b duskOn levels) s =
        .next { s with loader := { s.loader with state := .halted, error := .crc, number := 0, reading := .done } }) ∧
      (crc16 b = crc → stationOk (byteAt b 0) = false → exec (.profileReadDone b duskOn levels) s =
        .next { s with loader :=
          { s.loader with state := .halted, error := .stationNumber, number := 0, reading := .done } }) ∧
      (crc16 b = crc → stationOk (byteAt b 0) = true → firstError (imageChecks crc b) ≠ .none →
        exec (.profileReadDone b duskOn levels) s =
          .next { s with loader :=
            { s.loader with state := .halted, error := firstError (imageChecks crc b), number := byteAt b 0,
                            reading := .done } })) ∧
  (∀ (crc : Word16) (b : List Byte) (field word : Nat → Nat → Nat) (settings : Bool) (entry : Nat → ProfileError)
      (found : ProfileError),
      field = (fun p i => byteAt b (9 + 10 * (p - 1) + i)) → word = (fun p i => wordAt b (9 + 10 * (p - 1) + i)) →
      settings = decide ((1 ≤ byteAt b 1 ∧ byteAt b 1 ≤ 3) ∧ (1 ≤ byteAt b 2 ∧ byteAt b 2 ≤ 5) ∧
        (60 ≤ wordAt b 3 ∧ wordAt b 3 ≤ 600) ∧ (5 ≤ wordAt b 5 ∧ wordAt b 5 ≤ 300) ∧
        (8 ≤ byteAt b 7 ∧ byteAt b 7 ≤ 31) ∧ (16 ≤ byteAt b 8 ∧ byteAt b 8 ≤ 60)) →
      entry = (fun p =>
        if field p 0 = 0 then .none
        else if 4 < field p 0 then .range
        else if field p 0 = 4 ∧ word p 1 = 0 then .supplyNoGroup
        else if 511 < word p 1 then .range
        else if field p 0 = 4 ∧ word p 3 = word p 1 then .supplyOwnParent
        else if 511 < word p 3 ∨ (field p 0 ≠ 4 ∧ word p 3 ≠ 0) then .range
        else if 3 < field p 5 then .range
        else if field p 5 = 0 ∧ ¬(
            (field p 0 = 1 → (2 ≤ field p 6 ∧ field p 6 ≤ 60) ∧ (60 ≤ word p 7 ∧ word p 7 ≤ 3600) ∧
              2 ≤ field p 9 ∧ field p 9 ≤ 15) ∧
            (field p 0 = 2 → (1 ≤ field p 6 ∧ field p 6 ≤ 32) ∧ (60 ≤ word p 7 ∧ word p 7 ≤ 3600) ∧
              10 ≤ field p 9 ∧ field p 9 ≤ 100) ∧
            (field p 0 = 3 → 10 ≤ word p 6 ∧ word p 6 ≤ 300) ∧
            (field p 0 = 4 → (1 ≤ field p 6 ∧ field p 6 ≤ 10) ∧ 1 ≤ field p 7 ∧ field p 7 ≤ 30)) then .range
        else .none) →
      found = firstError (imageChecks crc b) →
      (crc16 b ≠ crc → found = .crc) ∧
      (crc16 b = crc → stationOk (byteAt b 0) = false → found = .stationNumber) ∧
      (crc16 b = crc → stationOk (byteAt b 0) = true → settings = false → found = .range) ∧
      (crc16 b = crc → stationOk (byteAt b 0) = true → settings = true →
        (∀ p, 1 ≤ p → p ≤ 64 → entry p ≠ .none → (∀ q, 1 ≤ q → q < p → entry q = .none) → found = entry p) ∧
        ((∀ p, 1 ≤ p → p ≤ 64 → entry p = .none) →
          ((∃ p q, 1 ≤ p ∧ p < q ∧ q ≤ 64 ∧ field p 0 = 4 ∧ field q 0 = 4 ∧ word p 1 = word q 1) →
            found = .supplyDuplicate) ∧
          ((∀ p q, 1 ≤ p → p < q → q ≤ 64 → field p 0 = 4 → field q 0 = 4 → word p 1 ≠ word q 1) →
            found = .none)))) ∧
  (∀ (b : List Byte) (s : State), b.length = 6 → (s.loader.state ≠ .loading ∨ s.loader.reading ≠ .header) →
    exec (.profileHeaderTaken b) s = .next s) ∧
  (∀ (b : List Byte) (i : Nat), wordAt b i = byteAt b i * 256 + byteAt b (i + 1))

/-- A good image completes the load in one event: profile in force, run tag drawn (its value is free, log 6), each point's configuration read from its entry, the three presets included, and its monitor started with the level sampled at that tick (the levels come as operands, log 8; a loop's time of agreement, while nothing is agreed, is the model's, log 27), a request still gathered discarded and counted, LISTENING for W plus (station number mod 16) seconds (R58, R66, R75, R79, R80, R166, R188, R189, R194, R196, R197, R211). The line is read from then on; that its idle time runs from that moment is the model's choice (log 4). Outside LOADING, or with no image awaited, an image changes nothing (R192; log 2). -/
def Obligations.GoodImageCompletesTheLoad : Prop :=
  (∀ (b : List Byte) (duskOn : Bool) (levels : BitVec 64) (crc : Word16) (s : State),
    b.length = 649 → s.loader.state = .loading → s.loader.reading = .image crc →
    firstError (imageChecks crc b) = .none →
    ∃ t, exec (.profileReadDone b duskOn levels) s = .next t ∧
      t.loader = { s.loader with
        state := .listening, error := .none, profile := some (readProfile b), number := byteAt b 0, reading := .done
        listenEnd := some (s.now + (wordAt b 3 + byteAt b 0 % 16) * 100) } ∧
      (∃ tag, t.origin = { s.origin with runTag := some tag }) ∧
      (∀ (p : Nat) (level : Bool) (field word : Nat → Nat) (c : PointConfig) (m : Monitor), pointOk p = true →
        level = levels.getLsbD (p - 1) → field = (fun i => byteAt b (9 + 10 * (p - 1) + i)) →
        word = (fun i => wordAt b (9 + 10 * (p - 1) + i)) → c = (readProfile b).point p → m = t.field.monitor p →
        (field 0 = 0 → c = { kind := none, group := 0, parent := 0, set := 0, settings := .unused } ∧ m = .off) ∧
        (field 0 ≠ 0 → c.group = word 1 ∧ c.parent = word 3 ∧ c.set = field 5) ∧
        (field 0 = 1 → c.kind = some .lamp ∧
          m = .lamp { current := level, changedAt := s.now, sampledAt := s.now, cycle := [], present := [] } ∧
          c.settings = (if field 5 = 0 then .lamp (field 6) (word 7) (field 9) else if field 5 = 1 then .lamp 10 300 3
            else if field 5 = 2 then .lamp 5 120 2 else .lamp 30 900 5)) ∧
        (field 0 = 2 → c.kind = some .loop ∧
          m = .loop
            { gateStart := s.now, gateCount := 0, gates := 0, lastClass := none, agreed := none, agreedAt := s.now
              sum := 0, eligible := 0, baseline := none, reference := none, inRangeRun := 0, onsets := []
              present := [] } ∧
          c.settings = (if field 5 = 0 then .loop (field 6) (word 7) (field 9) else if field 5 = 1 then .loop 4 300 40
            else if field 5 = 2 then .loop 8 120 25 else .loop 2 900 60)) ∧
        (field 0 = 3 → c.kind = some .sign ∧
          m = .sign { burst := none, memory := none, heartbeatStart := some s.now, present := [] } ∧
          c.settings = (if field 5 = 0 then .sign (word 6) else if field 5 = 1 then .sign 30
            else if field 5 = 2 then .sign 15 else .sign 90)) ∧
        (field 0 = 4 → c.kind = some .supply ∧
          m = .supply { closed := level, changedAt := s.now, sampledAt := s.now, present := [] } ∧
          c.settings = (if field 5 = 0 then .supply (field 6) (field 7) else if field 5 = 1 then .supply 1 2
            else if field 5 = 2 then .supply 2 5 else .supply 5 10))) ∧
      (readProfile b).station = byteAt b 0 ∧ (readProfile b).lineRate = rateOfCode (byteAt b 1) ∧
      (readProfile b).window = wordAt b 3 ∧ (readProfile b).returnGrace = wordAt b 5 ∧
      (readProfile b).shedThreshold = byteAt b 7 ∧
      t.own = byteAt b 0 ∧ t.window = wordAt b 3 ∧ t.returnGrace = wordAt b 5 ∧ t.shedThreshold = byteAt b 7 ∧
      (∀ p, t.pointConfig p = (readProfile b).point p) ∧
      (∀ g, g ∈ t.supervised ↔ ∃ p, pointOk p = true ∧ ((readProfile b).point p).kind = some .supply ∧
        ((readProfile b).point p).group = g) ∧
      t.field.duskOn = duskOn ∧ t.field.duskChangedAt = none ∧
      t.field.settleEnd = some (s.now + 6000) ∧ t.field.malformedBursts = s.field.malformedBursts ∧
      t.port.rate = rateOfCode (byteAt b 2) ∧ t.port.limit = byteAt b 8 ∧ t.port.assembler = .idle ∧
      t.port.discarded = s.port.discarded + (match s.port.assembler with
        | .gathering _ _ _ => 1
        | _ => 0) ∧
      t.port.requests = s.port.requests ∧ t.port.reports = s.port.reports ∧ t.port.service = s.port.service ∧
      t.rx = { s.rx with lastHeard := s.rx.clock } ∧ t.table = s.table ∧ t.roster = s.roster ∧ t.tx = s.tx ∧
      t.time = s.time) ∧
  (∀ (b : List Byte) (duskOn : Bool) (levels : BitVec 64) (s : State), b.length = 649 →
    (s.loader.state ≠ .loading ∨ ∀ crc, s.loader.reading ≠ .image crc) →
    exec (.profileReadDone b duskOn levels) s = .next s) ∧
  [1, 2, 3, 4, 5].map rateOfCode = [9600, 19200, 38400, 57600, 115200]

/-! ### Point monitors -/

/-- While no settle runs, OUT is raised after the out-confirm time of no current with dusk on and cleared after 5 s of current; DAYBURN is raised after the dayburn-confirm time of current with dusk off and cleared after 5 s of no current; all counted from the later of the last change and the end of the last settle (R61 to R63). The tick's samples of the current and of the dusk input have then been read (R57; the marks are the model's, log 28). While a settle runs, before the interval has passed, with the other current or, of the two confirmations, the other dusk level, and at a point whose monitor is no lamp's or is off (R58), none of the four changes anything (log 2). -/
def Obligations.LampOutAndDayburnAreJudged : Prop :=
  (∀ (p : Nat) (s : State) (m : LampMonitor) (out day cycle : Nat),
      pointOk p = true → s.field.monitor p = .lamp m → (s.pointConfig p).settings = .lamp out day cycle →
      s.field.settleEnd = none →
      (s.field.duskOn = true → m.current = false → max m.changedAt s.field.settleEndedAt + out * 100 ≤ s.now →
        exec (.outConfirm p) s = .next { s with
          field := { s.field.setMonitor p (.lamp { m with sampledAt := s.now, present := condJoin .lampOut m.present }) with
            duskSampledAt := s.now }
          origin := { s.origin with
            reportsIn := s.origin.reportsIn ++ reportsOf p m.present (condJoin .lampOut m.present) } }) ∧
      (m.current = true → max m.changedAt s.field.settleEndedAt + 500 ≤ s.now →
        exec (.outClear p) s = .next { s with
          field := { s.field.setMonitor p (.lamp { m with sampledAt := s.now, present := condLeave .lampOut m.present }) with
            duskSampledAt := s.now }
          origin := { s.origin with
            reportsIn := s.origin.reportsIn ++ reportsOf p m.present (condLeave .lampOut m.present) } })) ∧
  (∀ (p : Nat) (s : State) (m : LampMonitor) (out day cycle : Nat),
      pointOk p = true → s.field.monitor p = .lamp m → (s.pointConfig p).settings = .lamp out day cycle →
      s.field.settleEnd = none →
      (s.field.duskOn = false → m.current = true → max m.changedAt s.field.settleEndedAt + day * 100 ≤ s.now →
        exec (.dayburnConfirm p) s = .next { s with
          field := { s.field.setMonitor p (.lamp { m with sampledAt := s.now, present := condJoin .lampDayburn m.present }) with
            duskSampledAt := s.now }
          origin := { s.origin with
            reportsIn := s.origin.reportsIn ++ reportsOf p m.present (condJoin .lampDayburn m.present) } }) ∧
      (m.current = false → max m.changedAt s.field.settleEndedAt + 500 ≤ s.now →
        exec (.dayburnClear p) s = .next { s with
          field := { s.field.setMonitor p (.lamp { m with sampledAt := s.now, present := condLeave .lampDayburn m.present }) with
            duskSampledAt := s.now }
          origin := { s.origin with
            reportsIn := s.origin.reportsIn ++ reportsOf p m.present (condLeave .lampDayburn m.present) } })) ∧
  (∀ (p : Nat) (s : State) (m : LampMonitor) (out day cycle since : Nat) (settling : Prop),
      pointOk p = true → s.field.monitor p = .lamp m → (s.pointConfig p).settings = .lamp out day cycle →
      settling = (s.field.settleEnd ≠ none) → since = max m.changedAt s.field.settleEndedAt →
      (settling ∨ s.field.duskOn = false ∨ m.current = true ∨ s.now < since + out * 100 →
        exec (.outConfirm p) s = .next s) ∧
      (settling ∨ m.current = false ∨ s.now < since + 500 → exec (.outClear p) s = .next s) ∧
      (settling ∨ s.field.duskOn = true ∨ m.current = false ∨ s.now < since + day * 100 →
        exec (.dayburnConfirm p) s = .next s) ∧
      (settling ∨ m.current = true ∨ s.now < since + 500 → exec (.dayburnClear p) s = .next s)) ∧
  (∀ (p : Nat) (i : Instr) (s : State), pointOk p = true → (∀ m, s.field.monitor p ≠ .lamp m) →
      i ∈ [Instr.outConfirm p, .outClear p, .dayburnConfirm p, .dayburnClear p] → exec i s = .next s)

/-- A change of dusk restarts the 60 s settle, and a change to on clears DAYBURN at every lamp; a second change at a tick whose sample has been read is not that tick's (R57, log 28); the settle's end restarts the lamps' intervals (R61, R63). With no profile in force, as in LOADING and HALTED, the dusk input is not read (R58, R195), and before its end, or with none running, the settle's end changes nothing (log 2). -/
def Obligations.DuskChangeRestartsTheSettle : Prop :=
  ∀ s : State,
    (∀ on : Bool, s.running = true → s.field.duskOn ≠ on → s.field.duskSampledAt ≠ s.now →
      ∃ t, exec (.duskChange on) s = .next t ∧
        t = { s with field := t.field, origin := { s.origin with reportsIn := t.origin.reportsIn } } ∧
        t.field.duskOn = on ∧ t.field.duskSampledAt = s.now ∧ t.field.duskChangedAt = some s.now ∧
        t.field.settleEnd = some (s.now + 6000) ∧
        t.field.settleEndedAt = s.field.settleEndedAt ∧ t.field.malformedBursts = s.field.malformedBursts ∧
        (∀ p, t.field.monitor p =
          match s.field.monitor p with
          | .lamp m => if on then .lamp { m with present := condLeave .lampDayburn m.present } else .lamp m
          | other => other) ∧
        (∀ r, r ∈ t.origin.reportsIn ↔ r ∈ s.origin.reportsIn ∨
          (on = true ∧ r.condition = .lampDayburn ∧ r.raise = false ∧ pointOk r.point = true ∧
            ∃ m, s.field.monitor r.point = .lamp m ∧ .lampDayburn ∈ m.present))) ∧
    (∀ on : Bool, s.field.duskOn = on ∨ s.field.duskSampledAt = s.now → exec (.duskChange on) s = .next s) ∧
    (∀ e, s.field.settleEnd = some e → e ≤ s.now →
      exec .duskSettleEnd s = .next { s with field := { s.field with settleEnd := none, settleEndedAt := e } }) ∧
    (∀ on : Bool, s.loader.profile = none → exec (.duskChange on) s = .next s) ∧
    ((∀ e, s.field.settleEnd = some e → s.now < e) → exec .duskSettleEnd s = .next s)

/-- A present-to-absent transition with dusk on, but not at the tick at which dusk turned on (R61; read so by the model, log 21), enters the cycle list and judges CYCLING; any other change of current only restarts the intervals; a second change at a tick whose sample has been read is not that tick's (R57, log 28); and CYCLING clears when the oldest entry of a full list leaves the 30 minutes (R64). Before that, or with a list not full, the expiry changes nothing (log 2), and neither command does at a point whose monitor is no lamp's or is off (R58, R195). -/
def Obligations.LampCyclingIsJudged : Prop :=
  (∀ (p : Nat) (s : State) (m : LampMonitor) (out day cycle : Nat),
    pointOk p = true → s.field.monitor p = .lamp m → (s.pointConfig p).settings = .lamp out day cycle →
    (∀ present : Bool, m.current ≠ present → m.sampledAt ≠ s.now →
      (present = true ∨ s.field.duskOn = false ∨ s.field.duskChangedAt = some s.now) →
      exec (.lampCurrentChange p present) s = .next { s with
        field := s.field.setMonitor p (.lamp { m with current := present, changedAt := s.now, sampledAt := s.now }) }) ∧
    (∀ present : Bool, m.current = present ∨ m.sampledAt = s.now → exec (.lampCurrentChange p present) s = .next s) ∧
    (m.current = true → m.sampledAt ≠ s.now → s.field.duskOn = true → s.field.duskChangedAt ≠ some s.now →
      ∀ list after, list = (if cycle ≤ m.cycle.length then m.cycle.drop 1 else m.cycle) ++ [s.now] →
        after = (if list.length = cycle ∧ s.now - list.headD 0 < 180000
          then condJoin .lampCycling m.present else condLeave .lampCycling m.present) →
        exec (.lampCurrentChange p false) s = .next { s with
          field := { s.field.setMonitor p
            (.lamp { current := false, changedAt := s.now, sampledAt := s.now, cycle := list, present := after }) with
            duskSampledAt := s.now }
          origin := { s.origin with reportsIn := s.origin.reportsIn ++ reportsOf p m.present after } }) ∧
    (∀ oldest rest, m.cycle = oldest :: rest → m.cycle.length = cycle → oldest + 180000 ≤ s.now →
      exec (.cyclingWindowExpiry p) s = .next { s with
        field := s.field.setMonitor p (.lamp { m with present := condLeave .lampCycling m.present })
        origin := { s.origin with
          reportsIn := s.origin.reportsIn ++ reportsOf p m.present (condLeave .lampCycling m.present) } }) ∧
    ((m.cycle.length ≠ cycle ∨ ∀ oldest, m.cycle.head? = some oldest → s.now < oldest + 180000) →
      exec (.cyclingWindowExpiry p) s = .next s)) ∧
  (∀ (p : Nat) (present : Bool) (s : State), pointOk p = true → (∀ m, s.field.monitor p ≠ .lamp m) →
    exec (.lampCurrentChange p present) s = .next s ∧ exec (.cyclingWindowExpiry p) s = .next s)

/-- A gate's end classes its count, agrees a class on the second gate of it, and judges OPEN, OUT-OF-RANGE, STUCK and CHATTER from the agreed state; before a baseline exists nothing is agreed (R67 to R73). Before the gate's 5 ticks have passed, after the 16 gates of a period, and at a point whose monitor is no loop's or is off (R58, R195), the command changes nothing (log 2). -/
def Obligations.LoopGateIsJudged : Prop :=
  (∀ (p edges n : Nat) (s : State) (m : LoopMonitor) (sens stuck chatter : Nat),
    pointOk p = true → s.field.monitor p = .loop m → (s.pointConfig p).settings = .loop sens stuck chatter →
    m.gateStart + 5 ≤ s.now → m.gates < 16 → n = min (m.gateCount + edges) 65535 →
    ∃ m' : LoopMonitor, exec (.loopGateEnd p edges) s = .next { s with
        field := s.field.setMonitor p (.loop m')
        origin := { s.origin with reportsIn := s.origin.reportsIn ++ reportsOf p m.present m'.present } } ∧
      m'.gateStart = m.gateStart + 5 ∧ m'.gateCount = 0 ∧ m'.gates = m.gates + 1 ∧
      m'.baseline = m.baseline ∧ m'.reference = m.reference ∧
      m'.inRangeRun = (if 500 ≤ n ∧ n ≤ 10000 then m.inRangeRun + 1 else 0) ∧
      (m.baseline = none → m'.lastClass = none ∧ m'.agreed = m.agreed ∧
        (500 ≤ n ∧ n ≤ 10000 → m'.sum = m.sum + n ∧ m'.eligible = m.eligible + 1) ∧
        (¬(500 ≤ n ∧ n ≤ 10000) → m'.sum = m.sum ∧ m'.eligible = m.eligible)) ∧
      (∀ b c, m.baseline = some b →
        c = (if n < 500 then GateClass.low else if 10000 < n then .high
          else if b + b * sens / 256 ≤ n then .occupied else .vacant) →
        m'.lastClass = some c ∧ m'.agreed = (if m.lastClass = some c then some c else m.agreed) ∧
        (c = .vacant → m'.sum = m.sum + n ∧ m'.eligible = m.eligible + 1) ∧
        (c ≠ .vacant → m'.sum = m.sum ∧ m'.eligible = m.eligible)) ∧
      m'.agreedAt = (if m'.agreed = m.agreed then m.agreedAt else s.now) ∧
      (.loopOpen ∈ m'.present ↔
        (m'.agreed = some .low ∧ m.agreed ≠ some .low) ∨ (.loopOpen ∈ m.present ∧ m'.inRangeRun < 40)) ∧
      (.loopOutOfRange ∈ m'.present ↔
        (m'.agreed = some .high ∧ m.agreed ≠ some .high) ∨ (.loopOutOfRange ∈ m.present ∧ m'.inRangeRun < 40)) ∧
      (.loopStuck ∈ m'.present ↔ m'.agreed = some .occupied ∧
        (m'.agreedAt + stuck * 100 < s.now ∨ .loopStuck ∈ m.present)) ∧
      (m'.agreed = some .occupied ∧ m.agreed ≠ some .occupied →
        m'.onsets = (if chatter + 1 ≤ m.onsets.length then m.onsets.drop 1 else m.onsets) ++ [s.now] ∧
        (.loopChatter ∈ m'.present ↔ m'.onsets.length = chatter + 1 ∧ s.now - m'.onsets.headD 0 < 6000)) ∧
      (¬(m'.agreed = some .occupied ∧ m.agreed ≠ some .occupied) →
        m'.onsets = m.onsets ∧ (.loopChatter ∈ m'.present ↔ .loopChatter ∈ m.present))) ∧
  (∀ (p edges : Nat) (s : State), pointOk p = true →
    ((∃ m, s.field.monitor p = .loop m ∧ (s.now < m.gateStart + 5 ∨ 16 ≤ m.gates)) ∨
      ∀ m, s.field.monitor p ≠ .loop m) →
    exec (.loopGateEnd p edges) s = .next s)

/-- After 16 gates a period with 8 or more eligible gates gives the baseline, the first baseline is the reference, and DRIFT is judged between the two bounds; CHATTER clears when the oldest onset of a full list leaves the 60 s (R69, R70, R73, R74). With other than 16 gates, with a list not full or its oldest onset within the 60 s, and at a point whose monitor is no loop's or is off (R58, R195), these commands change nothing (log 2). -/
def Obligations.LoopPeriodAndWindowAreJudged : Prop :=
  (∀ (p : Nat) (s : State) (m : LoopMonitor) (sens stuck chatter : Nat),
    pointOk p = true → s.field.monitor p = .loop m → (s.pointConfig p).settings = .loop sens stuck chatter →
    (m.gates = 16 →
      ∃ after, exec (.loopBaselinePeriodEnd p) s = .next { s with
          field := s.field.setMonitor p (.loop { m with
            gates := 0, sum := 0, eligible := 0
            baseline := if 8 ≤ m.eligible then some (m.sum / m.eligible) else m.baseline
            reference :=
              match m.reference with
              | some r => some r
              | none => if 8 ≤ m.eligible then some (m.sum / m.eligible) else m.baseline
            present := after })
          origin := { s.origin with reportsIn := s.origin.reportsIn ++ reportsOf p m.present after } } ∧
        (∀ c, c ≠ .loopDrift → (c ∈ after ↔ c ∈ m.present)) ∧
        ∀ b r, (if 8 ≤ m.eligible then some (m.sum / m.eligible) else m.baseline) = some b →
          m.reference = some r →
          (.loopDrift ∈ after ↔ r / 32 < max b r - min b r ∨ (.loopDrift ∈ m.present ∧ r / 64 < max b r - min b r))) ∧
    (∀ oldest rest, m.onsets = oldest :: rest → m.onsets.length = chatter + 1 → oldest + 6000 ≤ s.now →
      exec (.chatterWindowExpiry p) s = .next { s with
        field := s.field.setMonitor p (.loop { m with present := condLeave .loopChatter m.present })
        origin := { s.origin with
          reportsIn := s.origin.reportsIn ++ reportsOf p m.present (condLeave .loopChatter m.present) } }) ∧
    (m.gates ≠ 16 → exec (.loopBaselinePeriodEnd p) s = .next s) ∧
    ((m.onsets.length ≠ chatter + 1 ∨ ∀ oldest, m.onsets.head? = some oldest → s.now < oldest + 6000) →
      exec (.chatterWindowExpiry p) s = .next s)) ∧
  (∀ (p : Nat) (s : State), pointOk p = true → (∀ m, s.field.monitor p ≠ .loop m) →
    exec (.loopBaselinePeriodEnd p) s = .next s ∧ exec (.chatterWindowExpiry p) s = .next s)

/-- A pulse begins a burst or joins the one in progress and restarts the gap, and a burst whose gap has passed ends first (log 3). A burst of 8 or more pulses is counted and discarded; a valid one gives its meaning to the memory, removes NO-HEARTBEAT, restarts the heartbeat, and joins its fault only where the memory already held it; OK empties the set; a silence raises NO-HEARTBEAT and empties the memory (R76, R77, R78). With no burst or before its gap has passed, with the interval stopped or before its limit, and at a point whose monitor is no sign's or is off (R58, R195), the command changes nothing (log 2). -/
def Obligations.SignPulsesAndBurstsAreJudged : Prop :=
  (∀ (p : Nat) (s : State) (m : SignMonitor), pointOk p = true → s.field.monitor p = .sign m →
      (m.burst = none → exec (.signPulse p) s =
        .next { s with field := s.field.setMonitor p (.sign { m with burst := some ⟨1, s.now⟩ }) }) ∧
      (∀ b, m.burst = some b → s.now ≤ b.gapStart + 20 → exec (.signPulse p) s =
        .next { s with field := s.field.setMonitor p (.sign { m with burst := some ⟨b.pulses + 1, s.now⟩ }) }) ∧
      (∀ b, m.burst = some b → b.gapStart + 20 < s.now →
        ∃ t, exec (.signBurstEnd p) s = .next t ∧ exec (.signPulse p) s = exec (.signPulse p) t)) ∧
  (∀ (p : Nat) (s : State) (m : SignMonitor), pointOk p = true → s.field.monitor p = .sign m →
      (∀ b, m.burst = some b → b.gapStart + 20 ≤ s.now → 8 ≤ b.pulses →
        exec (.signBurstEnd p) s = .next { s with field :=
          { s.field.setMonitor p (.sign { m with burst := none }) with malformedBursts := s.field.malformedBursts + 1 } }) ∧
      (∀ b meaning, m.burst = some b → b.gapStart + 20 ≤ s.now → b.pulses ≤ 7 →
        (b.pulses = 1 ∧ meaning = .ok ∨ b.pulses = 2 ∧ meaning = .fault .signModule ∨
          b.pulses = 3 ∧ meaning = .fault .signPower ∨ b.pulses = 4 ∧ meaning = .fault .signDisplayMismatch ∨
          5 ≤ b.pulses ∧ meaning = .fault .signOther) →
        ∃ after, exec (.signBurstEnd p) s = .next { s with
            field := s.field.setMonitor p
              (.sign { burst := none, memory := some meaning, heartbeatStart := some s.now, present := after })
            origin := { s.origin with reportsIn := s.origin.reportsIn ++ reportsOf p m.present after } } ∧
          (meaning = .ok → after = []) ∧
          (∀ c, meaning = .fault c → ∀ d,
            d ∈ after ↔ d ≠ .signNoHeartbeat ∧ (d ∈ m.present ∨ (d = c ∧ m.memory = some meaning)))) ∧
      (∀ start limit, m.heartbeatStart = some start → (s.pointConfig p).settings = .sign limit →
        start + limit * 100 ≤ s.now →
        exec (.noHeartbeat p) s = .next { s with
          field := s.field.setMonitor p
            (.sign { m with memory := none, heartbeatStart := none, present := condJoin .signNoHeartbeat m.present })
          origin := { s.origin with
            reportsIn := s.origin.reportsIn ++ reportsOf p m.present (condJoin .signNoHeartbeat m.present) } })) ∧
  (∀ (p : Nat) (s : State) (m : SignMonitor), pointOk p = true → s.field.monitor p = .sign m →
      ((∀ b, m.burst = some b → s.now < b.gapStart + 20) → exec (.signBurstEnd p) s = .next s) ∧
      (∀ limit, (s.pointConfig p).settings = .sign limit →
        (∀ start, m.heartbeatStart = some start → s.now < start + limit * 100) →
        exec (.noHeartbeat p) s = .next s)) ∧
  (∀ (p : Nat) (i : Instr) (s : State), pointOk p = true → (∀ m, s.field.monitor p ≠ .sign m) →
      i ∈ [Instr.signPulse p, .signBurstEnd p, .noHeartbeat p] → exec i s = .next s)

/-- A change of the contact restarts its interval, and a second change at a tick whose sample has been read is not that tick's (R57, log 28); LOSS is raised after the loss-confirm time open, and cleared after the restore-confirm time closed (R80). Before its time, with the other level, and at a point whose monitor is no supply's or is off (R58, R195), the command changes nothing (log 2). -/
def Obligations.SupplyLossIsJudged : Prop :=
  (∀ (p : Nat) (s : State) (m : SupplyMonitor) (loss restore : Nat),
    pointOk p = true → s.field.monitor p = .supply m → (s.pointConfig p).settings = .supply loss restore →
    (∀ closed : Bool, m.closed ≠ closed → m.sampledAt ≠ s.now → exec (.supplyContactChange p closed) s =
      .next { s with field :=
        s.field.setMonitor p (.supply { m with closed := closed, changedAt := s.now, sampledAt := s.now }) }) ∧
    (∀ closed : Bool, m.closed = closed ∨ m.sampledAt = s.now →
      exec (.supplyContactChange p closed) s = .next s) ∧
    (m.closed = false → m.changedAt + loss * 100 ≤ s.now →
      exec (.supplyLossConfirm p) s = .next { s with
        field := s.field.setMonitor p (.supply { m with sampledAt := s.now, present := condJoin .supplyLoss m.present })
        origin := { s.origin with
          reportsIn := s.origin.reportsIn ++ reportsOf p m.present (condJoin .supplyLoss m.present) } }) ∧
    (m.closed = true → m.changedAt + restore * 100 ≤ s.now →
      exec (.supplyRestoreConfirm p) s = .next { s with
        field := s.field.setMonitor p (.supply { m with sampledAt := s.now, present := condLeave .supplyLoss m.present })
        origin := { s.origin with
          reportsIn := s.origin.reportsIn ++ reportsOf p m.present (condLeave .supplyLoss m.present) } }) ∧
    (m.closed = true ∨ s.now < m.changedAt + loss * 100 → exec (.supplyLossConfirm p) s = .next s) ∧
    (m.closed = false ∨ s.now < m.changedAt + restore * 100 → exec (.supplyRestoreConfirm p) s = .next s)) ∧
  (∀ (p : Nat) (closed : Bool) (i : Instr) (s : State), pointOk p = true → (∀ m, s.field.monitor p ≠ .supply m) →
    i ∈ [Instr.supplyContactChange p closed, .supplyLossConfirm p, .supplyRestoreConfirm p] → exec i s = .next s)

/-- The commands of one point change nothing but its monitor, the mark that the tick's dusk sample has been read (log 28), the malformed-burst count and the reports handed to the Origin Unit, all of that point; an event's joins and leaves are handed over as every raise in ascending code, then every clear in ascending code (R60, R81). A condition joins a set once, in ascending code order, and leaves it alone (R60). -/
def Obligations.FieldCommandsReportAndKeepEverythingElse : Prop :=
  (∀ (p edges : Nat) (level : Bool) (i : Instr) (s t : State),
      i ∈ [Instr.lampCurrentChange p level, .outConfirm p, .outClear p, .dayburnConfirm p, .dayburnClear p,
        .cyclingWindowExpiry p, .loopGateEnd p edges, .loopBaselinePeriodEnd p, .chatterWindowExpiry p,
        .signPulse p, .signBurstEnd p, .noHeartbeat p, .supplyContactChange p level, .supplyLossConfirm p,
        .supplyRestoreConfirm p] →
      exec i s = .next t →
      t = { s with field := { s.field with
                     monitors := t.field.monitors, malformedBursts := t.field.malformedBursts
                     duskSampledAt := t.field.duskSampledAt }
                   origin := { s.origin with reportsIn := t.origin.reportsIn } } ∧
      (∀ q, pointOk q = true → q ≠ p → t.field.monitor q = s.field.monitor q) ∧
      ∃ new, t.origin.reportsIn = s.origin.reportsIn ++ new ∧ ∀ r ∈ new, r.point = p) ∧
  (∀ (p : Nat) (before after : List Condition),
      before.Pairwise (fun a b => a.code < b.code) → after.Pairwise (fun a b => a.code < b.code) →
      ∃ raises clears : List Condition,
        reportsOf p before after = raises.map (fun c => ⟨p, c, true⟩) ++ clears.map (fun c => ⟨p, c, false⟩) ∧
        raises.Pairwise (fun a b => a.code < b.code) ∧ clears.Pairwise (fun a b => a.code < b.code) ∧
        (∀ c, c ∈ raises ↔ c ∈ after ∧ c ∉ before) ∧ (∀ c, c ∈ clears ↔ c ∈ before ∧ c ∉ after)) ∧
  (∀ (c : Condition) (l : List Condition),
      (∀ x, (x ∈ condJoin c l ↔ x = c ∨ x ∈ l) ∧ (x ∈ condLeave c l ↔ x ∈ l ∧ x ≠ c)) ∧
      (l.Pairwise (fun a b => a.code < b.code) →
        (condJoin c l).Pairwise (fun a b => a.code < b.code) ∧ (condLeave c l).Pairwise (fun a b => a.code < b.code))) ∧
  (∀ (f : Field) (p : Nat) (m : Monitor), f.monitors.length = 64 → pointOk p = true →
      (f.setMonitor p m).monitor p = m ∧
      ∀ q, pointOk q = true → q ≠ p → (f.setMonitor p m).monitor q = f.monitor q)

/-! ### Own records (chapter 4) -/

/-- A change of an own record is one event: the slot's counter rises by one and the record takes it, the announced flag becomes false, one own update waits for the slot, and a change entry joins in IN-STEP or MUTE, outside a REJOIN, where none stands and the record is not deferred; a transmitter then idle in IN-STEP with work pending waits for its access moment. An urgent entry, of slot 0 or a SUPPLY point, joins behind the last urgent entry and ahead of every ordinary one, an ordinary entry at the tail (R83, R92, R93, R95, R96, R136). -/
def Obligations.ChangeOfAnOwnRecordIsOneEvent : Prop :=
  (∀ (k : Nat) (sl : OwnSlot) (r new : Record) (s t : State),
      k ≤ 64 → s.origin.slots.length = 65 → t = s.commit k sl r → new = { r with version := sl.version + 1 } →
      t = { s with
        origin := { s.origin with
          slots := t.origin.slots, changeQueue := t.origin.changeQueue, ownUpdates := t.origin.ownUpdates }
        tx := { s.tx with state := t.tx.state } } ∧
      t.origin.slot k = { sl with record := some new, version := sl.version + 1, announced := false } ∧
      (∀ j, j ≠ k → t.origin.slot j = s.origin.slot j) ∧
      t.origin.ownUpdates = (if k ∈ s.origin.ownUpdates then s.origin.ownUpdates else s.origin.ownUpdates ++ [k]) ∧
      t.origin.changeQueue =
        (if (s.loader.state = .inStep ∨ s.loader.state = .mute) ∧ s.loader.rejoin = none ∧ k ∉ s.origin.changeQueue ∧
            ¬((new.kind = .lamp ∨ new.kind = .loop ∨ new.kind = .sign) ∧ new.group ≠ 0 ∧ new.group ∈ s.origin.held)
          then s.enqueue k s.origin.changeQueue else s.origin.changeQueue) ∧
      t.tx.state =
        (if s.loader.state = .inStep ∧ s.tx.state = .idle ∧
            (t.origin.changeQueue ≠ [] ∨ s.origin.ackSlot ≠ none ∨ s.origin.refreshDue ≠ none)
          then .waiting else s.tx.state)) ∧
  (∀ (k : Nat) (urgents ordinaries : List Nat) (s : State),
      (s.urgent k = true ↔ k = 0 ∨ (s.pointConfig k).kind = some .supply) ∧
      ((∀ j ∈ urgents, s.urgent j = true) → (∀ j ∈ ordinaries, s.urgent j = false) →
        s.enqueue k (urgents ++ ordinaries) =
          if s.urgent k then urgents ++ [k] ++ ordinaries else urgents ++ ordinaries ++ [k]))

/-- A point report moves the slot's picture, and the most severe condition left decides: a raise of an empty or a CLEARED slot enters the history and may latch, another condition replaces an OPEN record's, an empty picture clears it or, of a flapping record, starts the quiet interval (R84 to R87, R89, R90). That the history is kept in ticks, and the 15 minutes judged in ticks, is the model's choice (log 15). With no report of the point waiting, the command changes nothing (log 2). The severities are those of R5, and a list's the highest of its conditions'. -/
def Obligations.PointReportsMoveTheRecord : Prop :=
  (∀ (p : Nat) (rep : ConditionReport) (s u : State) (old sl raised : OwnSlot) (picture : List Condition)
      (history : List Nat) (latch : Bool),
    pointOk p = true → s.origin.reportsIn.find? (fun r => decide (r.point = p)) = some rep →
    u = { s with origin := { s.origin with
      reportsIn := s.origin.reportsIn.eraseP (fun r => decide (r.point = p)) } } →
    old = s.origin.slot p →
    picture = (if rep.raise then condJoin rep.condition old.picture else condLeave rep.condition old.picture) →
    sl = { old with picture := picture } →
    history = (if 4 ≤ old.history.length then old.history.drop 1 else old.history) ++ [s.now] →
    latch = decide (history.length = 4 ∧ s.now - history.headD 0 < 90000) →
    raised = { sl with history := history, quietEnd := none } →
    (∀ c, picture.Pairwise (fun a b => a.code < b.code) →
      (wanted picture = some c ↔ c ∈ picture ∧
        ∀ d ∈ picture, d.severity < c.severity ∨ (d.severity = c.severity ∧ c.code ≤ d.code))) ∧
    (old.record = none →
      (wanted picture = none → exec (.conditionReport p) s = .next (u.putSlot p sl)) ∧
      (∀ c k, wanted picture = some c → (s.pointConfig p).kind = some k →
        exec (.conditionReport p) s = .next (u.commit p raised
          { key := ⟨s.own, p⟩, kind := k, conds := [c], state := .opened, flapping := latch
            group := (s.pointConfig p).group
            parent := if k = .supply ∧ (s.pointConfig p).parent ≠ 0 then some (s.pointConfig p).parent else none
            version := 0, raisedAt := s.nowSec, occurrences := 1, ackMark := none, lastHeard := none
            freshness := .fresh, clearedAt := none }))) ∧
    (∀ r, old.record = some r → r.state = .opened →
      (∀ c, wanted picture = some c → r.conds = [c] →
        exec (.conditionReport p) s = .next (u.putSlot p { sl with quietEnd := none })) ∧
      (∀ c, wanted picture = some c → r.conds ≠ [c] →
        exec (.conditionReport p) s =
          .next (u.commit p { sl with quietEnd := none } { r with conds := [c], ackMark := none })) ∧
      (wanted picture = none → r.flapping = false →
        exec (.conditionReport p) s = .next (u.commit p sl
          { r with state := .cleared, ackMark := none, clearedAt := some s.nowSec })) ∧
      (wanted picture = none → r.flapping = true → old.picture ≠ [] →
        exec (.conditionReport p) s = .next (u.putSlot p { sl with quietEnd := some (s.now + 60000) })) ∧
      (wanted picture = none → r.flapping = true → old.picture = [] →
        exec (.conditionReport p) s = .next (u.putSlot p sl))) ∧
    (∀ r, old.record = some r → r.state = .cleared →
      (∀ c, wanted picture = some c →
        exec (.conditionReport p) s = .next (u.commit p raised
          { r with state := .opened, conds := [c], occurrences := min (r.occurrences + 1) 255
                   raisedAt := s.nowSec, clearedAt := none, flapping := latch })) ∧
      (wanted picture = none → exec (.conditionReport p) s = .next (u.putSlot p sl)))) ∧
  (∀ (p : Nat) (s : State), pointOk p = true → (∀ r ∈ s.origin.reportsIn, r.point ≠ p) →
    exec (.conditionReport p) s = .next s) ∧
  (∀ (k : Nat) (sl : OwnSlot) (s t : State), k ≤ 64 → s.origin.slots.length = 65 → t = s.putSlot k sl →
    t = { s with origin := { s.origin with slots := t.origin.slots } } ∧ t.origin.slot k = sl ∧
    ∀ j, j ≠ k → t.origin.slot j = s.origin.slot j) ∧
  [Condition.lampOut, .lampCycling, .lampDayburn, .loopOpen, .loopOutOfRange, .loopStuck, .loopChatter, .loopDrift,
    .signNoHeartbeat, .signPower, .signDisplayMismatch, .signModule, .signOther, .supplyLoss, .numberClash,
    .groupClash, .tableFull, .lineMute, .groupTableFull].map Condition.severity =
      [2, 1, 1, 3, 3, 2, 2, 1, 3, 3, 3, 2, 1, 4, 4, 3, 3, 3, 2] ∧
  (∀ (r : Record) (l : List Condition), r.severity = severityOf r.conds ∧ (∀ c ∈ l, c.severity ≤ severityOf l) ∧
    (l ≠ [] → ∃ c ∈ l, c.severity = severityOf l))

/-- A station-condition report that changes slot 0's list creates, changes, clears or re-raises the station record; one that does not change the list changes nothing (R91). With no report of the block waiting, the command changes nothing (log 2). -/
def Obligations.StationReportsMoveTheStationRecord : Prop :=
  (∀ (src : ReportSource) (rep : StationReport) (s u : State) (old sl : OwnSlot) (list : List Condition),
    s.origin.stationIn.find? (fun r => decide (r.source = src)) = some rep →
    u = { s with origin := { s.origin with
      stationIn := s.origin.stationIn.eraseP (fun r => decide (r.source = src)) } } →
    old = s.origin.slot 0 →
    list = (if rep.raise then condJoin rep.condition old.picture else condLeave rep.condition old.picture) →
    sl = { old with picture := list } →
    ((rep.raise = true ↔ rep.condition ∈ old.picture) → exec (.stationConditionReport src) s = .next u) ∧
    (¬(rep.raise = true ↔ rep.condition ∈ old.picture) →
      (old.record = none → list ≠ [] →
        exec (.stationConditionReport src) s = .next (u.commit 0 sl
          { key := ⟨s.own, 0⟩, kind := .station, conds := list, state := .opened, flapping := false, group := 0
            parent := none, version := 0, raisedAt := s.nowSec, occurrences := 1, ackMark := none
            lastHeard := none, freshness := .fresh, clearedAt := none })) ∧
      (∀ r, old.record = some r → r.state = .opened →
        (list ≠ [] → exec (.stationConditionReport src) s =
          .next (u.commit 0 sl { r with conds := list, ackMark := none })) ∧
        (list = [] → exec (.stationConditionReport src) s = .next (u.commit 0 sl
          { r with state := .cleared, ackMark := none, clearedAt := some s.nowSec, flapping := false }))) ∧
      (∀ r, old.record = some r → r.state = .cleared → list ≠ [] →
        exec (.stationConditionReport src) s = .next (u.commit 0 sl
          { r with state := .opened, conds := list, occurrences := min (r.occurrences + 1) 255
                   raisedAt := s.nowSec, clearedAt := none, flapping := false })))) ∧
  (∀ (src : ReportSource) (s : State), (∀ r ∈ s.origin.stationIn, r.source ≠ src) →
    exec (.stationConditionReport src) s = .next s)

/-- The end of a flapping record's quiet interval with its picture empty releases the latch and clears the record in one event, and empties the history. W after its clear an own record leaves its slot: the counter and the history stay, the announced flag is false, a removal is offered as an own update, a point's change entry and the slot's due refresh send go, no slip is counted, and a send that waits between attempts for what has gone ends (R88, R90, R139). That the due refresh send of slot 0 goes too is the model's reading of R88 beside R97 (log 19). Before the interval or the linger has ended, or with none to end, the command changes nothing (log 2). -/
def Obligations.LatchReleaseAndLingerEndOwnRecords : Prop :=
  (∀ (k e : Nat) (r : Record) (s : State), pointOk k = true → (s.origin.slot k).record = some r →
      r.flapping = true → r.state = .opened → (s.origin.slot k).picture = [] →
      (s.origin.slot k).quietEnd = some e → e ≤ s.now →
      exec (.flapRelease k) s = .next (s.commit k { s.origin.slot k with history := [], quietEnd := none }
        { r with state := .cleared, ackMark := none, clearedAt := some s.nowSec, flapping := false })) ∧
  (∀ (k at' : Nat) (r : Record) (s : State), slotOk k = true → s.origin.slots.length = 65 →
      (s.origin.slot k).record = some r → r.state = .cleared → r.clearedAt = some at' → at' + s.window ≤ s.nowSec →
      ∃ t, exec (.ownLingerEnd k) s = .next t ∧
        t = { s with
          origin := { s.origin with
            slots := t.origin.slots, changeQueue := t.origin.changeQueue, ownUpdates := t.origin.ownUpdates
            refreshDue := t.origin.refreshDue }
          tx := { s.tx with state := t.tx.state, current := t.tx.current } } ∧
        t.origin.slot k = { s.origin.slot k with record := none, announced := false, picture := [] } ∧
        (∀ j, j ≠ k → t.origin.slot j = s.origin.slot j) ∧
        t.origin.ownUpdates = (if k ∈ s.origin.ownUpdates then s.origin.ownUpdates else s.origin.ownUpdates ++ [k]) ∧
        (k = 0 → t.origin.changeQueue = s.origin.changeQueue) ∧
        (k ≠ 0 → t.origin.changeQueue = s.origin.changeQueue.filter (fun j => decide (j ≠ k))) ∧
        t.origin.refreshDue = (if s.origin.refreshDue = some k then none else s.origin.refreshDue) ∧
        (∀ cur, s.tx.state.isSending = false → s.tx.current = some cur →
          (cur.item = .change k ∧ k ≠ 0 ∨ cur.item = .refresh k) →
          t.tx = { s.tx with
            current := none
            state := if s.loader.state = .inStep ∧
                (t.origin.changeQueue ≠ [] ∨ s.origin.ackSlot ≠ none ∨ t.origin.refreshDue ≠ none)
              then .waiting else .idle }) ∧
        ((∀ cur, s.tx.state.isSending = false → s.tx.current = some cur →
          ¬(cur.item = .change k ∧ k ≠ 0 ∨ cur.item = .refresh k)) → t.tx = s.tx)) ∧
  (∀ (k : Nat) (s : State), pointOk k = true →
      (∀ r e, (s.origin.slot k).record = some r → r.flapping = true → r.state = .opened →
        (s.origin.slot k).picture = [] → (s.origin.slot k).quietEnd = some e → s.now < e) →
      exec (.flapRelease k) s = .next s) ∧
  (∀ (k : Nat) (s : State), slotOk k = true →
      (∀ r at', (s.origin.slot k).record = some r → r.state = .cleared → r.clearedAt = some at' →
        s.nowSec < at' + s.window) →
      exec (.ownLingerEnd k) s = .next s)

/-- A hold-begun signal adds its group to the held set; a hold-ended signal removes it and, in IN-STEP or MUTE outside a REJOIN, queues each unannounced own LAMP, LOOP or SIGN record of the group that has no entry, in ascending slot order, each as its class asks: at the tail, of points that are not SUPPLY; a transmitter then idle in IN-STEP with work pending becomes WAITING (R94, R95, R136). With no such signal at the head, the command changes nothing (log 2). -/
def Obligations.HoldSignalsMoveTheHeldSet : Prop :=
  (∀ (g : Nat) (rest : List HoldSignal) (s : State),
    (s.origin.holdIn = .begun g :: rest →
      ∃ t, exec .holdBegunSignal s = .next t ∧
        t = { s with origin := { s.origin with holdIn := rest, held := t.origin.held } } ∧
        ∀ h, h ∈ t.origin.held ↔ h ∈ s.origin.held ∨ h = g) ∧
    (s.origin.holdIn = .ended g :: rest →
      ∃ t, exec .holdEndedSignal s = .next t ∧
        t = { s with
          origin := { s.origin with holdIn := rest, held := t.origin.held, changeQueue := t.origin.changeQueue }
          tx := { s.tx with
            state := if s.loader.state = .inStep ∧ s.tx.state = .idle ∧
                (t.origin.changeQueue ≠ [] ∨ s.origin.ackSlot ≠ none ∨ s.origin.refreshDue ≠ none)
              then .waiting else s.tx.state } } ∧
        (∀ h, h ∈ t.origin.held ↔ h ∈ s.origin.held ∧ h ≠ g) ∧
        ∃ released : List Nat,
          released.Pairwise (· < ·) ∧
          (∀ k, k ∈ released ↔
            (s.loader.state = .inStep ∨ s.loader.state = .mute) ∧ s.loader.rejoin = none ∧ pointOk k = true ∧
            k ∉ s.origin.changeQueue ∧ (s.origin.slot k).announced = false ∧
            ∃ r, (s.origin.slot k).record = some r ∧
              (r.kind = .lamp ∨ r.kind = .loop ∨ r.kind = .sign) ∧ r.group = g) ∧
          t.origin.changeQueue = released.foldl (fun q k => s.enqueue k q) s.origin.changeQueue ∧
          ((∀ k ∈ released, (s.pointConfig k).kind ≠ some .supply) →
            t.origin.changeQueue = s.origin.changeQueue ++ released))) ∧
  (∀ s : State,
    ((∀ g rest, s.origin.holdIn ≠ .begun g :: rest) → exec .holdBegunSignal s = .next s) ∧
    ((∀ g rest, s.origin.holdIn ≠ .ended g :: rest) → exec .holdEndedSignal s = .next s))

/-- The origin re-checks an ACK in order and sets the mark to its own number or refuses, with the one reply and the request service FREE; an ACKNOWLEDGE sets the mark to its sender where the run tag, the OPEN state, the version and the absent mark fit, and is counted as ignored otherwise (R154, R156, R161). With no own ACK in service, or no ACKNOWLEDGE waiting, the command changes nothing (log 2). -/
def Obligations.AcknowledgementsSetTheMark : Prop :=
  (∀ (o k : Nat) (seen : Version) (s : State) (reply : Report → State → State),
    reply = (fun m t => { t with port := { t.port.post m with service := .free } }) →
    (s.port.service = .ownAck o k seen →
      (s.loader.state ≠ .inStep →
        exec .ownAckDecision s = .next (reply (.refused 6 .notReady o k) s)) ∧
      (s.loader.state = .inStep → (s.origin.slot k).record = none →
        exec .ownAckDecision s = .next (reply (.refused 6 .noRecord o k) s)) ∧
      (∀ r, s.loader.state = .inStep → (s.origin.slot k).record = some r →
        (r.state = .cleared → exec .ownAckDecision s = .next (reply (.refused 6 .notOpen o k) s)) ∧
        (r.state = .opened → r.version ≠ seen →
          exec .ownAckDecision s = .next (reply (.refused 6 .changed o k) s)) ∧
        (r.state = .opened → r.version = seen → r.ackMark ≠ none →
          exec .ownAckDecision s = .next (reply (.refused 6 .already o k) s)) ∧
        (r.state = .opened → r.version = seen → r.ackMark = none →
          exec .ownAckDecision s = .next (reply (.ackReply o k .accepted)
            (s.commit k (s.origin.slot k) { r with ackMark := some s.own }))))) ∧
    (∀ (a : AckFrame) (rest : List AckFrame) (u : State), s.origin.acksIn = a :: rest →
      u = { s with origin := { s.origin with acksIn := rest } } →
      (∀ r, (s.origin.slot a.point).record = some r → s.origin.runTag = some a.tag → r.state = .opened →
        r.version = a.seen → r.ackMark = none →
        exec .acknowledgeAtOrigin s =
          .next (u.commit a.point (s.origin.slot a.point) { r with ackMark := some a.sender })) ∧
      ((∀ r, (s.origin.slot a.point).record = some r → s.origin.runTag = some a.tag → r.state = .opened →
        r.version = a.seen → r.ackMark ≠ none) →
        exec .acknowledgeAtOrigin s =
          .next { u with origin := { u.origin with acksIgnored := s.origin.acksIgnored + 1 } }))) ∧
  (∀ s : State,
    ((∀ o k seen, s.port.service ≠ .ownAck o k seen) → exec .ownAckDecision s = .next s) ∧
    (s.origin.acksIn = [] → exec .acknowledgeAtOrigin s = .next s))

/-- A walk step moves the pointer one slot, withdraws a due send not started as a slip, and makes a send due for slot 0 and for each slot that holds a record, or counts it as a slip in MUTE; the next step comes W times 100 divided by 65 ticks later; a transmitter then idle in IN-STEP with work pending becomes WAITING (R97, R98, R136). Before the step is due, or with no walk, the command changes nothing (log 2). -/
def Obligations.WalkStepMovesThePointer : Prop :=
  (∀ (due' k : Nat) (s : State), s.origin.stepDue = some due' → due' ≤ s.now → k = (s.origin.pointer + 1) % 65 →
    ∃ t, exec .walkStep s = .next t ∧
      t = { s with
        origin := t.origin
        tx := { s.tx with
          state := if s.loader.state = .inStep ∧ s.tx.state = .idle ∧
              (s.origin.changeQueue ≠ [] ∨ s.origin.ackSlot ≠ none ∨ t.origin.refreshDue ≠ none)
            then .waiting else s.tx.state } } ∧
      t.origin = { s.origin with
        pointer := k
        stepDue := some (due' + s.window * 100 / 65)
        refreshDue :=
          if (k = 0 ∨ (s.origin.slot k).record ≠ none) ∧ s.loader.state ≠ .mute then some k else none
        slips := s.origin.slips + (if s.origin.refreshDue = none then 0 else 1) +
          (if (k = 0 ∨ (s.origin.slot k).record ≠ none) ∧ s.loader.state = .mute then 1 else 0) }) ∧
  (∀ s : State, (∀ due', s.origin.stepDue = some due' → s.now < due') → exec .walkStep s = .next s)

/-! ### The table, its claims and the roster (chapters 1, 2 and 5) -/

/-- A record's view state, hold group and holding group follow from its origin state and the group table (R9). -/
def Obligations.ViewStateIsDerived : Prop :=
  ∀ (r : Record) (groups : List GroupEntry),
    (r.holdGroup = match r.kind with
      | .lamp => if r.group = 0 then none else some r.group
      | .loop => if r.group = 0 then none else some r.group
      | .sign => if r.group = 0 then none else some r.group
      | .supply => r.parent
      | .station => none) ∧
    (r.state = .cleared → r.view groups = .cleared) ∧
    (∀ g, r.state = .opened → r.holdGroup = some g →
      (r.view groups = .held ↔ ∃ e ∈ groups, e.group = g) ∧ (r.view groups = .active ↔ ∀ e ∈ groups, e.group ≠ g)) ∧
    (r.state = .opened → r.holdGroup = none → r.view groups = .active) ∧
    (r.item groups).record = r ∧ (r.item groups).view = r.view groups ∧
    (r.view groups = .held → (r.item groups).holding = r.holdGroup) ∧
    (r.view groups ≠ .held → (r.item groups).holding = none)

/-- The Table Engine takes no claim without a profile or while its part of a REJOIN waits (R194, R199, R200); otherwise it takes the head claim of the first source that has one waiting (R12); a frame is no claim while a REJOIN is in progress, since one queued after the emptying is applied in LISTENING (R110; log 31). A claim command that is not that head changes nothing (log 2). -/
def Obligations.ArbiterTakesTheFirstSource : Prop :=
  ∀ (s : State) (frames : List PeerFrame), frames = (if s.loader.rejoin = none then s.rx.queue else []) →
    (s.claimsOpen = true ↔ s.loader.profile ≠ none ∧ ∀ r, s.loader.rejoin = some r → r.tableDone = true) ∧
    (s.claimsOpen = false → s.nextClaim = none) ∧
    (s.origin.ownUpdates = [] → s.table.timers = [] → s.roster.events = [] → frames = [] →
      (∀ src cur, s.port.dump ≠ .building src cur) → s.nextClaim = none) ∧
    (s.claimsOpen = true →
      (∀ k l, s.origin.ownUpdates = k :: l → s.nextClaim = some (.ownUpdate k)) ∧
      (s.origin.ownUpdates = [] → (∀ c l, s.table.timers = c :: l → s.nextClaim = some (.timer c)) ∧
        (s.table.timers = [] → (∀ e l, s.roster.events = e :: l → s.nextClaim = some (.event e)) ∧
          (s.roster.events = [] → (∀ f l, frames = f :: l → s.nextClaim = some (.frame f)) ∧
            (frames = [] → (∀ src cur, s.port.dump = .building src cur →
              s.nextClaim = some (.page src cur))))))) ∧
    ((∀ k, s.nextClaim ≠ some (.ownUpdate k)) → exec .ownUpdate s = .next s) ∧
    ((∀ d k, s.nextClaim ≠ some (.timer (.linger d k))) → exec .lingerExpiry s = .next s) ∧
    ((∀ d g, s.nextClaim ≠ some (.timer (.grace d g))) → exec .graceExpiry s = .next s) ∧
    ((∀ n, s.nextClaim ≠ some (.event ⟨n, .silent⟩)) → exec .rosterEventSilent s = .next s) ∧
    ((∀ n, s.nextClaim ≠ some (.event ⟨n, .present⟩)) → exec .rosterEventPresent s = .next s) ∧
    ((∀ n b, s.nextClaim ≠ some (.frame ⟨n, .record, b⟩)) → exec .recordFrame s = .next s) ∧
    ((∀ n b, s.nextClaim ≠ some (.frame ⟨n, .roll, b⟩)) → exec .rollFrame s = .next s) ∧
    ((∀ n b, s.nextClaim ≠ some (.frame ⟨n, .acknowledge, b⟩)) → exec .acknowledgeFrame s = .next s) ∧
    ((∀ src cur, s.nextClaim ≠ some (.page src cur)) → exec .pageBuild s = .next s)

/-- A deadline that is reached makes its event: a PRESENT peer not heard for three windows becomes SILENT with one event made or the waiting one withdrawn; a linger, one stored window of its origin after the clear or one own window where that is not known, and a grace that is due join the timer expiries once, ahead of the first that is later: by deadline, at equal deadlines lingers first in key order, then graces in group order (R11, R14, R25, R113, R114). Before its deadline, or with no deadline kept, the command changes nothing (log 2). -/
def Obligations.DeadlinesFallDue : Prop :=
  ∀ (s : State) (earlier : TimerClaim → TimerClaim → Prop)
    (joins : TimerClaim → List TimerClaim → List TimerClaim → Prop),
    earlier = (fun a b => match a, b with
      | .linger d k, .linger e j =>
        d < e ∨ (d = e ∧ (k.origin < j.origin ∨ (k.origin = j.origin ∧ k.point < j.point)))
      | .linger d _, .grace e _ => d ≤ e
      | .grace d _, .linger e _ => d < e
      | .grace d g, .grace e h => d < e ∨ (d = e ∧ g < h)) →
    joins = (fun c l l' => (c ∈ l ∧ l' = l) ∨ (c ∉ l ∧ ∃ front back, l = front ++ back ∧ l' = front ++ c :: back ∧
      (∀ x ∈ front, ¬earlier c x) ∧ ∀ x, back.head? = some x → earlier c x)) →
    (∀ n e, stationOk n = true → s.roster.find n = some e → e.state = .present →
      e.lastHeard + 3 * (if e.window = 0 then s.window else e.window) ≤ s.nowSec →
      ∃ t, exec (.silenceDeadline n) s = .next t ∧ t = { s with roster := t.roster } ∧
        t.roster.find n = some { e with state := .silent } ∧ (∀ m, m ≠ n → t.roster.find m = s.roster.find m) ∧
        t.roster.events =
          (if n ∈ s.roster.events.map (·.station) then s.roster.events.filter (fun x => decide (x.station ≠ n))
           else s.roster.events ++ [⟨n, .silent⟩])) ∧
    (∀ o p r at' window, stationOk o = true → slotOk p = true → o ≠ s.own →
      findRecord s.table.cft ⟨o, p⟩ = some r → r.state = .cleared → r.clearedAt = some at' →
      window = (match s.roster.find o with
        | some e => if e.window = 0 then s.window else e.window
        | none => s.window) →
      at' + window ≤ s.nowSec →
      ∃ t, exec (.lingerDeadlineDue o p) s = .next t ∧
        t = { s with table := { s.table with timers := t.table.timers } } ∧
        joins (.linger (at' + window) ⟨o, p⟩) s.table.timers t.table.timers) ∧
    (∀ g d e, groupOk g = true → findEntry s.table.groups g = some e → e.state = .returning d → d ≤ s.nowSec →
      ∃ t, exec (.graceDeadlineDue g) s = .next t ∧
        t = { s with table := { s.table with timers := t.table.timers } } ∧
        joins (.grace d g) s.table.timers t.table.timers) ∧
    (∀ n, stationOk n = true →
      (∀ e, s.roster.find n = some e → e.state = .present →
        s.nowSec < e.lastHeard + 3 * (if e.window = 0 then s.window else e.window)) →
      exec (.silenceDeadline n) s = .next s) ∧
    (∀ o p, stationOk o = true → slotOk p = true →
      (∀ r at', o ≠ s.own → findRecord s.table.cft ⟨o, p⟩ = some r → r.state = .cleared → r.clearedAt = some at' →
        s.nowSec < at' + (match s.roster.find o with
          | some e => if e.window = 0 then s.window else e.window
          | none => s.window)) →
      exec (.lingerDeadlineDue o p) s = .next s) ∧
    (∀ g, groupOk g = true → (∀ d, findEntry s.table.groups g = some ⟨g, .returning d⟩ → s.nowSec < d) →
      exec (.graceDeadlineDue g) s = .next s)

/-- An own update leaves the CFT with the slot's record as it stands, or without one where the slot is empty, and every other record as it was; its work asks for one RECORD-CHANGED, or for one RECORD-REMOVED with cause LINGER (R15, R27, R28, R92). A claim closes in three steps (R13). Of each touched group, an entry with an OPEN supervising record is DOWN under the lowest origin, a DOWN one without is RETURNING for this station's grace, and a group without an entry gets one while there is room, lacks one otherwise; where an entry went while GROUP-TABLE-FULL is set, lacking groups get entries in ascending order while there is room (R35 to R39, R48, R49). The conditions are then reported: TABLE-FULL raised at a refusal and cleared at 927 peer records or fewer, GROUP-CLASH where a peer SUPPLY record of a supervised group is held, GROUP-TABLE-FULL raised by a new lack and cleared at 120 entries or fewer with none lacking (R24, R48, R50, R51; their order is the model's choice, log 9), with a signal for each entry created or removed, ended ahead of begun (R52). The notices follow: record notices in key order, a RECORD-REMOVED ahead of a RECORD-CHANGED, GROUP notices in group order, each for an entry created, changed in state or supervisor, or removed (R27, R28, R30, R46), the waiting expiries that no longer stand being withdrawn (R14). Peer records are those of another origin (R31), and a group's held count is that of the OPEN records whose hold group it is (R33). -/
def Obligations.OwnUpdateAndCloseBringTheTablesLevel : Prop :=
  (∀ (k : Nat) (s : State) (key : Key) (was now : Option Record), s.nextClaim = some (.ownUpdate k) →
      key = ⟨s.own, k⟩ → was = findRecord s.table.cft key →
      now = (s.origin.slot k).record.map (fun r => { r with key := key }) →
      ∃ (w : Work) (t : State), exec .ownUpdate s = .next t ∧
        t = State.closeClaim { s with origin := { s.origin with ownUpdates := s.origin.ownUpdates.drop 1 } } w [] ∧
        findRecord t.table.cft key = now ∧
        (∀ j, j ≠ key → findRecord t.table.cft j = findRecord s.table.cft j) ∧
        t.table.cft = w.te.cft ∧ w.te = { s.table with cft := w.te.cft } ∧
        (∀ r, now = some r → w.removed = [] ∧ w.changed = [key] ∧ w.inserted = (if was = none then [key] else [])) ∧
        (now = none → w.changed = [] ∧ w.inserted = [] ∧
          w.removed = (match was with
            | some old => [(key, .recordRemoved (old.item s.table.groups) .linger)]
            | none => [])) ∧
        w.touched.Pairwise (· < ·) ∧
        (∀ g, g ∈ w.touched ↔ ∃ r, (was = some r ∨ now = some r) ∧ r.kind = .supply ∧ r.group = g) ∧
        w.ended = [] ∧ w.refused = false ∧ w.dirty = (was.isSome || now.isSome)) ∧
  (∀ (w : Work) (s : State) (extra : List Notice) (c : Closed), c = w.close s →
      s.closeClaim w extra = { s with
        table := c.te
        origin := { s.origin with stationIn := s.origin.stationIn ++ c.reports, holdIn := s.origin.holdIn ++ c.signals }
        port := s.port.gateAll (c.notices ++ extra) } ∧
      c.te = { w.te with
        groups := c.te.groups, timers := c.te.timers, tableFull := c.te.tableFull
        groupTableFull := c.te.groupTableFull, groupClash := c.te.groupClash } ∧
      (∀ x, x ∈ c.te.timers ↔ x ∈ w.te.timers ∧
        ((∀ d k, x = .linger d k → ∃ r, findRecord w.te.cft k = some r ∧ r.state = .cleared ∧
            ∃ at', r.clearedAt = some at' ∧ d = at' + (match s.roster.find k.origin with
              | some e => if e.window = 0 then s.window else e.window
              | none => s.window)) ∧
          (∀ d g, x = .grace d g → ∃ e, findEntry c.te.groups g = some e ∧ e.state = .returning d)))) ∧
  (∀ (w : Work) (s : State) (c : Closed) (rescans : Bool) (before after : Nat → Option GroupEntry)
      (lowest : Nat → Option Nat),
      c = w.close s → rescans = (w.te.groupTableFull && !w.ended.isEmpty) →
      before = findEntry w.te.groups → after = findEntry c.te.groups → lowest = lowestSupervisor w.te.cft →
      (∀ g m, lowest g = some m ↔
        (∃ r ∈ w.te.cft, r.kind = .supply ∧ r.group = g ∧ r.state = .opened ∧ r.key.origin = m) ∧
        ∀ r ∈ w.te.cft, r.kind = .supply → r.group = g → r.state = .opened → m ≤ r.key.origin) ∧
      (∀ g e, before g = some e → g ∉ w.touched → after g = some e) ∧
      (∀ g e m, before g = some e → g ∈ w.touched → lowest g = some m → after g = some ⟨g, .down m⟩) ∧
      (∀ g m, before g = some ⟨g, .down m⟩ → g ∈ w.touched → lowest g = none →
        after g = some ⟨g, .returning (s.nowSec + s.returnGrace)⟩) ∧
      (∀ g d, before g = some ⟨g, .returning d⟩ → g ∈ w.touched → lowest g = none → after g = before g) ∧
      (∀ g, before g = none → lowest g = none → after g = none) ∧
      (∀ g, before g = none → g ∉ w.touched → rescans = false → after g = none) ∧
      (∀ g m, before g = none → lowest g = some m → (g ∈ w.touched ∨ rescans = true) →
        after g = some ⟨g, .down m⟩ ∨ (after g = none ∧ 128 ≤ c.te.groups.length)) ∧
      (∀ g h m, rescans = true → g < h → g ∉ w.touched → h ∉ w.touched → before g = none → before h = none →
        lowest g = some m → after h ≠ none → after g ≠ none) ∧
      (w.te.groups.length + w.touched.length ≤ 128 → ∀ g m, before g = none → g ∈ w.touched → lowest g = some m →
        after g = some ⟨g, .down m⟩) ∧
      (w.te.groups.length ≤ 128 → c.te.groups.length ≤ 128)) ∧
  (∀ (w : Work) (s : State) (c : Closed) (raised cleared clash : Bool) (group : HoldSignal → Nat),
      c = w.close s →
      raised = (!w.te.groupTableFull && decide (∃ g ∈ w.touched, findEntry w.te.groups g = none ∧
        lowestSupervisor w.te.cft g ≠ none ∧ findEntry c.te.groups g = none)) →
      cleared = (w.te.groupTableFull && decide (c.te.groups.length ≤ 120 ∧ lackingGroups c.te = [])) →
      clash = decide (∃ r ∈ w.te.cft, r.key.origin ≠ s.own ∧ r.kind = .supply ∧ r.group ∈ s.supervised) →
      group = (fun x => match x with
        | .begun g => g
        | .ended g => g) →
      (∀ g, g ∈ lackingGroups c.te ↔ findEntry c.te.groups g = none ∧ lowestSupervisor w.te.cft g ≠ none) ∧
      c.te.groupTableFull = ((w.te.groupTableFull || raised) && !cleared) ∧
      c.te.groupClash = (if w.dirty then clash else w.te.groupClash) ∧
      c.te.tableFull = (w.te.tableFull && decide (927 < peerCount s.own w.te.cft)) ∧
      c.reports =
        (if w.refused then [⟨.tableEngine, .tableFull, true⟩] else []) ++
        (if w.te.tableFull && decide (peerCount s.own w.te.cft ≤ 927) then [⟨.tableEngine, .tableFull, false⟩] else []) ++
        (if w.dirty && (clash != w.te.groupClash) then [⟨.tableEngine, .groupClash, clash⟩] else []) ++
        (if raised then [⟨.tableEngine, .groupTableFull, true⟩] else []) ++
        (if cleared then [⟨.tableEngine, .groupTableFull, false⟩] else []) ∧
      (∀ g, .begun g ∈ c.signals ↔ findEntry w.te.groups g = none ∧ findEntry c.te.groups g ≠ none) ∧
      (∀ g, .ended g ∈ c.signals ↔ g ∈ w.ended) ∧
      c.signals.Pairwise (fun x y => group x < group y ∨ (x = .ended (group x) ∧ y = .begun (group x)))) ∧
  (∀ (w : Work) (s : State) (c : Closed) (seen : Key → Option Seen) (removals : Key → List Notice),
      c = w.close s → w.changed.Pairwise (fun a b => a.lt b = true) →
      seen = (fun k => if k ∈ w.inserted then none else (findRecord s.table.cft k).map (fun r =>
        { severity := r.severity, view := r.view s.table.groups, freshness := r.freshness })) →
      removals = (fun k => (w.removed.filter (fun x => decide (x.1 = k))).map (fun x => { report := x.2, before := none })) →
      ∃ (keys : List Key) (groups : List Nat) (ofKey : Key → List Notice) (ofGroup : Nat → List Notice),
        c.notices = keys.flatMap ofKey ++ groups.flatMap ofGroup ∧
        keys.Pairwise (fun a b => a.lt b = true) ∧ groups.Pairwise (· < ·) ∧
        (∀ k, k ∈ keys ↔ k ∈ w.changed ∨ ∃ x ∈ w.removed, x.1 = k) ∧
        (∀ g, g ∈ groups ↔ (findEntry s.table.groups g).isSome = true ∨ (findEntry c.te.groups g).isSome = true) ∧
        (∀ k, k ∉ w.changed ∨ findRecord w.te.cft k = none → ofKey k = removals k) ∧
        (∀ k r, k ∈ w.changed → findRecord w.te.cft k = some r →
          ofKey k = removals k ++ [{ report := .recordChanged (r.item c.te.groups), before := seen k }]) ∧
        (∀ g e, findEntry s.table.groups g = some e → findEntry c.te.groups g = none →
          ofGroup g = [{ report := .group g .up none (heldCount w.te.cft g), before := none }]) ∧
        (∀ g m, findEntry c.te.groups g = some ⟨g, .down m⟩ →
          ofGroup g = (if findEntry s.table.groups g = some ⟨g, .down m⟩ then []
            else [{ report := .group g .down (some m) (heldCount w.te.cft g), before := none }])) ∧
        (∀ g d, findEntry c.te.groups g = some ⟨g, .returning d⟩ →
          ((∃ e, findEntry s.table.groups g = some ⟨g, .returning e⟩) → ofGroup g = []) ∧
          ((∀ e, findEntry s.table.groups g ≠ some ⟨g, .returning e⟩) →
            ofGroup g = [{ report := .group g .returning none (heldCount w.te.cft g), before := none }]))) ∧
  (∀ (own g : Nat) (cft : List Record) (te : TableEngine),
      peerCount own cft = (cft.filter (fun r => decide (r.key.origin ≠ own))).length ∧
      heldCount cft g = (cft.filter (fun r => decide (r.state = .opened ∧ r.holdGroup = some g))).length ∧
      Work.begin te = { te := te, removed := [], changed := [], inserted := [], touched := [], ended := []
                        refused := false, dirty := false })

/-- A linger expiry re-checks its record and deletes it where its deadline is reached, with a RECORD-REMOVED of cause LINGER; a grace expiry re-checks its entry and removes it, and where its group has no OPEN supervising record the entry stays away, with a hold-ended signal and a GROUP notice UP; either does nothing to the tables otherwise (R26 to R28, R34, R40, R41, R46, R52). -/
def Obligations.TimerExpiriesAreRechecked : Prop :=
  ∀ s : State,
    (∀ (d : Nat) (k : Key) (u : State) (due : Record → Prop), s.nextClaim = some (.timer (.linger d k)) →
      u = { s with table := { s.table with timers := s.table.timers.drop 1 } } →
      due = (fun r => findRecord s.table.cft k = some r ∧ r.state = .cleared ∧ ∃ at', r.clearedAt = some at' ∧
        at' + (match s.roster.find k.origin with
          | some e => if e.window = 0 then s.window else e.window
          | none => s.window) ≤ s.nowSec) →
      ∃ (w : Work) (t : State), exec .lingerExpiry s = .next t ∧ t = State.closeClaim u w [] ∧ t.table.cft = w.te.cft ∧
        (∀ r, due r →
          findRecord t.table.cft k = none ∧ w.dirty = true ∧
          w.removed = [(k, .recordRemoved (r.item s.table.groups) .linger)] ∧
          w.te = { u.table with cft := w.te.cft } ∧ w.touched = (if r.kind = .supply then [r.group] else [])) ∧
        ((∀ r, ¬due r) → t.table.cft = s.table.cft ∧ t.table.groups = s.table.groups ∧ w = Work.begin u.table) ∧
        w.changed = [] ∧ w.inserted = [] ∧ w.ended = [] ∧ w.refused = false ∧
        ∀ j, j ≠ k → findRecord t.table.cft j = findRecord s.table.cft j) ∧
    (∀ (d g : Nat) (u : State) (due : Prop), s.nextClaim = some (.timer (.grace d g)) →
      u = { s with table := { s.table with timers := s.table.timers.drop 1 } } →
      due = (∃ d', findEntry s.table.groups g = some ⟨g, .returning d'⟩ ∧ d' ≤ s.nowSec) →
      ∃ (w : Work) (t : State), exec .graceExpiry s = .next t ∧ t = State.closeClaim u w [] ∧
        t.table.cft = s.table.cft ∧
        (due →
          w = { te := { u.table with groups := s.table.groups.filter (fun e => decide (e.group ≠ g)) }
                removed := [], changed := [], inserted := [], touched := [], ended := [g], refused := false
                dirty := false } ∧
          (lowestSupervisor s.table.cft g = none →
            findEntry t.table.groups g = none ∧ .ended g ∈ t.origin.holdIn ∧
            { report := .group g .up none (heldCount s.table.cft g), before := none } ∈ (w.close u).notices)) ∧
        (¬due → t.table.groups = s.table.groups ∧ w = Work.begin u.table))

/-- A SILENT event marks every record of its station STALE, in place, with a RECORD-CHANGED for each that was FRESH; a PRESENT event changes no record, its work being that of a claim just begun; the station's notice comes last, with the counts at that moment (R13, R20, R27, R28, R30, R114). -/
def Obligations.RosterEventsReachTheTable : Prop :=
  ∀ (n : Nat) (s u : State), u = { s with roster := { s.roster with events := s.roster.events.drop 1 } } →
    (s.nextClaim = some (.event ⟨n, .silent⟩) →
      ∃ (w : Work) (t : State), exec .rosterEventSilent s = .next t ∧
        t = State.closeClaim u w
          [{ report := .stationSilent n
              (match s.roster.find n with
               | some e => e.lastHeard
               | none => 0)
              (s.table.cft.filter (fun r => decide (r.key.origin = n))).length
             before := none }] ∧
        w.te = { s.table with
          cft := s.table.cft.map (fun r => if r.key.origin = n then { r with freshness := .stale } else r) } ∧
        t.table.cft = w.te.cft ∧ t.table.groups = s.table.groups ∧
        (∀ k, k ∈ w.changed ↔ ∃ r ∈ s.table.cft, r.key = k ∧ k.origin = n ∧ r.freshness = .fresh) ∧
        w.changed.Pairwise (fun a b => a.lt b = true) ∧ w.removed = [] ∧ w.inserted = [] ∧ w.touched = [] ∧
        w.ended = [] ∧ w.refused = false ∧ t.origin.holdIn = s.origin.holdIn) ∧
    (s.nextClaim = some (.event ⟨n, .present⟩) →
      ∃ (t : State) (back : Notice), exec .rosterEventPresent s = .next t ∧
        back =
          { report := .stationBack n
              (s.table.cft.filter (fun r => decide (r.key.origin = n ∧ r.freshness = .stale))).length
            before := none } ∧
        t = State.closeClaim u (Work.begin s.table) [back] ∧
        t = { s with
          table := t.table
          roster := { s.roster with events := s.roster.events.drop 1 }
          origin := { s.origin with stationIn := t.origin.stationIn }
          port := s.port.gate back } ∧
        t.table.cft = s.table.cft ∧ t.table.groups = s.table.groups)

/-- Versions are compared modulo 256: 1 to 127 ahead is newer, 0 the same, 128 to 255 older. A RECORD, however full the table: a different known run tag first wipes every record of the sender; an absent key is inserted when OPEN, where the peer part then has room, and moot when CLEARED; a newer version replaces the record and refreshes it, the same refreshes it, an older is counted; the tag is stored, and every other sender's record stays. Each wiped record gets its RECORD-REMOVED, and the key a RECORD-CHANGED where it was inserted, replaced, or refreshed out of STALE (R7, R16 to R18, R27 to R29, R115, R117 to R120). The copy's raised at is now minus the age, or 0 where the age exceeds station seconds as they read (R7). -/
def Obligations.RecordFrameIsApplied : Prop :=
  (∀ i h : Version,
      (judgeVersion i h = .newer ↔
        1 ≤ (i.toNat + 256 - h.toNat) % 256 ∧ (i.toNat + 256 - h.toNat) % 256 ≤ 127) ∧
      (judgeVersion i h = .same ↔ (i.toNat + 256 - h.toNat) % 256 = 0) ∧
      (judgeVersion i h = .older ↔ 128 ≤ (i.toNat + 256 - h.toNat) % 256)) ∧
  (∀ (n : Nat) (b : List Byte) (f : RecordBody) (s : State) (k : Key) (wiped : Bool) (gone rest : List Record),
      s.nextClaim = some (.frame ⟨n, .record, b⟩) → readRecord b = some f → k = ⟨n, f.ann.point⟩ →
      (s.table.cft.map (·.key)).Nodup →
      wiped = decide (∃ old, (s.roster.find n).bind (·.tag) = some old ∧ old ≠ f.tag) →
      gone = (if wiped then s.table.cft.filter (fun r => decide (r.key.origin = n)) else []) →
      rest = (if wiped then s.table.cft.filter (fun r => decide (r.key.origin ≠ n)) else s.table.cft) →
      ∃ (w : Work) (t : State), exec .recordFrame s = .next t ∧
        t = State.closeClaim { s with
          rx := { s.rx with queue := s.rx.queue.drop 1 }
          roster := { s.roster with entries := t.roster.entries } } w [] ∧
        (∀ e, s.roster.find n = some e → t.roster.find n = some { e with tag := some f.tag }) ∧
        (∀ m, m ≠ n → t.roster.find m = s.roster.find m) ∧
        t.table.cft = w.te.cft ∧ w.ended = [] ∧ w.touched.Pairwise (· < ·) ∧
        ((findRecord rest k = none → f.ann.state = .opened → peerCount s.own rest < 959) →
          (∀ j, j ≠ k → findRecord w.te.cft j = findRecord rest j) ∧
          w.te = { s.table with cft := w.te.cft, moot := w.te.moot, old := w.te.old } ∧ w.refused = false ∧
          (w.dirty = true ↔ gone ≠ [] ∨ (findRecord rest k = none ∧ f.ann.state = .opened) ∨
            ∃ r, findRecord rest k = some r ∧ judgeVersion f.ann.version r.version ≠ .older) ∧
          w.removed = gone.map (fun r => (r.key, .recordRemoved (r.item s.table.groups) .wipe)) ∧
          (∀ g, g ∈ w.touched ↔ (∃ r ∈ gone, r.kind = .supply ∧ r.group = g) ∨
            (f.ann.kind = .supply ∧ f.ann.group = g ∧ findRecord rest k = none ∧ f.ann.state = .opened) ∨
            (∃ r, findRecord rest k = some r ∧ judgeVersion f.ann.version r.version = .newer ∧
              ((f.ann.kind = .supply ∧ f.ann.group = g) ∨ (r.kind = .supply ∧ r.group = g))))) ∧
        (findRecord rest k = none →
          (f.ann.state = .cleared → w.changed = [] ∧ w.inserted = [] ∧
            findRecord w.te.cft k = none ∧ w.te.moot = s.table.moot + 1 ∧ w.te.old = s.table.old) ∧
          (f.ann.state = .opened → peerCount s.own rest < 959 →
            w.changed = [k] ∧ w.inserted = [k] ∧ w.te.moot = s.table.moot ∧ w.te.old = s.table.old ∧
            findRecord w.te.cft k = some
              { key := k, kind := f.ann.kind, conds := f.ann.conds, state := .opened, flapping := f.ann.flapping
                group := f.ann.group, parent := f.ann.parent, version := f.ann.version
                raisedAt := s.raisedAt f.ann.age, occurrences := f.ann.occurrences.getD 1, ackMark := f.ann.ack
                lastHeard := some s.nowSec, freshness := .fresh, clearedAt := none })) ∧
        (∀ r, findRecord rest k = some r → w.inserted = [] ∧ w.te.moot = s.table.moot ∧
          (judgeVersion f.ann.version r.version = .newer → w.te.old = s.table.old ∧ w.changed = [k] ∧
            findRecord w.te.cft k = some
              { key := k, kind := f.ann.kind, conds := f.ann.conds, state := f.ann.state, flapping := f.ann.flapping
                group := f.ann.group, parent := f.ann.parent, version := f.ann.version
                raisedAt := s.raisedAt f.ann.age, occurrences := f.ann.occurrences.getD r.occurrences
                ackMark := f.ann.ack, lastHeard := some s.nowSec, freshness := .fresh
                clearedAt := if f.ann.state = .cleared then some s.nowSec else none }) ∧
          (judgeVersion f.ann.version r.version = .same → w.te.old = s.table.old ∧
            w.changed = (if r.freshness = .stale then [k] else []) ∧
            findRecord w.te.cft k = some { r with lastHeard := some s.nowSec, freshness := .fresh }) ∧
          (judgeVersion f.ann.version r.version = .older →
            w.te.old = s.table.old + 1 ∧ w.changed = [] ∧ w.te.cft = s.table.cft))) ∧
  (∀ (age : Nat) (s : State), s.raisedAt age = if s.time.seconds.toNat < age then 0 else s.nowSec - age)

/-- With 959 peer records held after any wipe, a RECORD that inserts evicts the record the eviction order yields, counted, with a RECORD-REMOVED of cause EVICTION, or is refused, counted, with TABLE-FULL set and raised. The eviction order: CLEARED longest, then STALE heard longest ago, then a FRESH HELD and last a FRESH ACTIVE record of lower severity, least severe and then heard longest ago; at equal times the lowest key, in a table in key order (R2); an own record never; none where no peer record qualifies (R16, R21 to R24, R27, R28, R117). -/
def Obligations.FullTableEvictsOrRefuses : Prop :=
  (∀ (n : Nat) (b : List Byte) (f : RecordBody) (s : State) (k : Key) (wiped : Bool) (gone rest : List Record),
      s.nextClaim = some (.frame ⟨n, .record, b⟩) → readRecord b = some f → k = ⟨n, f.ann.point⟩ →
      (s.table.cft.map (·.key)).Nodup →
      wiped = decide (∃ old, (s.roster.find n).bind (·.tag) = some old ∧ old ≠ f.tag) →
      gone = (if wiped then s.table.cft.filter (fun r => decide (r.key.origin = n)) else []) →
      rest = (if wiped then s.table.cft.filter (fun r => decide (r.key.origin ≠ n)) else s.table.cft) →
      findRecord rest k = none → f.ann.state = .opened → 959 ≤ peerCount s.own rest →
      ∃ (w : Work) (t : State), exec .recordFrame s = .next t ∧
        t = State.closeClaim { s with
          rx := { s.rx with queue := s.rx.queue.drop 1 }
          roster := { s.roster with entries := t.roster.entries } } w [] ∧
        (∀ e, s.roster.find n = some e → t.roster.find n = some { e with tag := some f.tag }) ∧
        (∀ m, m ≠ n → t.roster.find m = s.roster.find m) ∧
        t.table.cft = w.te.cft ∧ w.ended = [] ∧ w.touched.Pairwise (· < ·) ∧
        (∀ v, evictionChoice s.own { s.table with cft := rest } (severityOf f.ann.conds) = some v →
          findRecord w.te.cft v.key = none ∧
          findRecord w.te.cft k = some
            { key := k, kind := f.ann.kind, conds := f.ann.conds, state := .opened, flapping := f.ann.flapping
              group := f.ann.group, parent := f.ann.parent, version := f.ann.version
              raisedAt := s.raisedAt f.ann.age, occurrences := f.ann.occurrences.getD 1, ackMark := f.ann.ack
              lastHeard := some s.nowSec, freshness := .fresh, clearedAt := none } ∧
          (∀ j, j ≠ k → j ≠ v.key → findRecord w.te.cft j = findRecord rest j) ∧
          w.te = { s.table with cft := w.te.cft, evictions := s.table.evictions + 1 } ∧ w.dirty = true ∧
          w.refused = false ∧ w.changed = [k] ∧ w.inserted = [k] ∧
          w.removed = gone.map (fun r => (r.key, .recordRemoved (r.item s.table.groups) .wipe)) ++
            [(v.key, .recordRemoved (v.item s.table.groups) .eviction)] ∧
          (∀ g, g ∈ w.touched ↔ (∃ r ∈ v :: gone, r.kind = .supply ∧ r.group = g) ∨
            (f.ann.kind = .supply ∧ f.ann.group = g))) ∧
        (evictionChoice s.own { s.table with cft := rest } (severityOf f.ann.conds) = none →
          w.te = { s.table with
            cft := rest, refusedInserts := s.table.refusedInserts + 1, tableFull := true } ∧
          (w.dirty = true ↔ gone ≠ []) ∧ (∀ g, g ∈ w.touched ↔ ∃ r ∈ gone, r.kind = .supply ∧ r.group = g) ∧
          w.refused = true ∧ t.table.tableFull = true ∧
          ⟨.tableEngine, .tableFull, true⟩ ∈ t.origin.stationIn ∧ w.changed = [] ∧ w.inserted = [] ∧
          w.removed = gone.map (fun r => (r.key, .recordRemoved (r.item s.table.groups) .wipe)))) ∧
  (∀ (own severity : Nat) (te : TableEngine) (peer cleared stale : Record → Prop) (live : ViewState → Record → Prop)
      (lowest : Record → Record → Prop),
      peer = (fun r => r ∈ te.cft ∧ r.key.origin ≠ own) →
      cleared = (fun r => peer r ∧ r.state = .cleared) → stale = (fun r => peer r ∧ r.freshness = .stale) →
      live = (fun v r => peer r ∧ r.freshness = .fresh ∧ r.view te.groups = v ∧ r.severity < severity) →
      lowest = (fun v r => (te.cft.map (·.key)).Pairwise (fun a b => a.lt b = true) →
        v.key.origin < r.key.origin ∨ (v.key.origin = r.key.origin ∧ v.key.point ≤ r.key.point)) →
      (∀ v, evictionChoice own te severity = some v → peer v ∧
        ((∃ r, cleared r) → cleared v ∧ ∀ r, cleared r → v.clearedAt.getD 0 < r.clearedAt.getD 0 ∨
          (v.clearedAt.getD 0 = r.clearedAt.getD 0 ∧ lowest v r)) ∧
        ((∀ r, ¬cleared r) →
          ((∃ r, stale r) → stale v ∧ ∀ r, stale r → v.lastHeard.getD 0 < r.lastHeard.getD 0 ∨
            (v.lastHeard.getD 0 = r.lastHeard.getD 0 ∧ lowest v r)) ∧
          ((∀ r, ¬stale r) → ∃ w, live w v ∧ (w = .held ∨ (w = .active ∧ ∀ r, ¬live .held r)) ∧
            ∀ r, live w r → v.severity < r.severity ∨
              (v.severity = r.severity ∧ (v.lastHeard.getD 0 < r.lastHeard.getD 0 ∨
                (v.lastHeard.getD 0 = r.lastHeard.getD 0 ∧ lowest v r)))))) ∧
      (evictionChoice own te severity = none ↔
        ∀ r, ¬cleared r ∧ ¬stale r ∧ ¬live .held r ∧ ¬live .active r))

/-- A ROLL: a different known run tag first wipes every record of the sender; its tag and window are stored, a different window re-times the sender's silence, which makes a sender already overdue SILENT, and the lingers of its CLEARED records (that the fallen deadlines join inside this claim, and every waiting expiry of the sender's old deadlines is withdrawn, is the model's reading of R25, log 23); the sweep deletes the sender's OPEN point records outside the open set and no other point record; the station record goes where no part is carried. A station part is applied to the sender's station record by its version, keeps the occurrences of the record it replaces, and inserts, evicts or is refused as a RECORD does. Wiped, swept and evicted records get their RECORD-REMOVED, the station record its RECORD-CHANGED where it was inserted, replaced or refreshed out of STALE; every other sender's record and roster entry stays (R6, R16 to R18, R21 to R25, R27 to R29, R113 to R115, R117, R122 to R125). -/
def Obligations.RollIsApplied : Prop :=
  ∀ (n : Nat) (b : List Byte) (f : RollBody) (s : State) (k : Key) (wiped : Bool) (outside : Record → Bool)
      (gone kept swept left : List Record) (removed : List (Key × Report)) (evicts : Record → Prop),
      s.nextClaim = some (.frame ⟨n, .roll, b⟩) → readRoll b = some f → k = ⟨n, 0⟩ →
      (s.table.cft.map (·.key)).Nodup →
      wiped = decide (∃ old, (s.roster.find n).bind (·.tag) = some old ∧ old ≠ f.tag) →
      gone = (if wiped then s.table.cft.filter (fun r => decide (r.key.origin = n)) else []) →
      kept = (if wiped then s.table.cft.filter (fun r => decide (r.key.origin ≠ n)) else s.table.cft) →
      outside = (fun r => decide (r.key.origin = n ∧ 1 ≤ r.key.point ∧ r.state = .opened ∧ r.key.point ∉ f.openSet)) →
      swept = kept.filter outside → left = kept.filter (fun r => !outside r) →
      removed = gone.map (fun r => (r.key, .recordRemoved (r.item s.table.groups) .wipe)) ++
        swept.map (fun r => (r.key, .recordRemoved (r.item s.table.groups) .sweep)) →
      evicts = (fun v => 959 ≤ peerCount s.own left ∧ ∃ a, f.part = some a ∧ findRecord left k = none ∧
        a.state = .opened ∧ evictionChoice s.own { s.table with cft := left } (severityOf a.conds) = some v) →
      ∃ (w : Work) (t : State) (te : TableEngine), exec .rollFrame s = .next t ∧
        t = State.closeClaim { s with
          rx := { s.rx with queue := s.rx.queue.drop 1 }, roster := t.roster } w [] ∧
        t.table.cft = w.te.cft ∧ w.ended = [] ∧ te = { s.table with timers := w.te.timers } ∧
        (∀ m, m ≠ n → t.roster.find m = s.roster.find m) ∧
        (s.roster.find n = none → t.roster = s.roster) ∧
        (∀ e silenced, s.roster.find n = some e →
          silenced = decide (e.window ≠ f.window ∧ e.state = .present ∧ e.lastHeard + 3 * f.window ≤ s.nowSec) →
          t.roster.find n = some
            { e with tag := some f.tag, window := f.window, state := if silenced then .silent else e.state } ∧
          t.roster.events =
            (if silenced = false then s.roster.events
             else if n ∈ s.roster.events.map (·.station) then
               s.roster.events.filter (fun x => decide (x.station ≠ n))
             else s.roster.events ++ [⟨n, .silent⟩])) ∧
        (∀ retimed, retimed = decide (∃ e, s.roster.find n = some e ∧
            (if e.window = 0 then s.window else e.window) ≠ f.window) →
          (retimed = false → w.te.timers = s.table.timers) ∧
          (retimed = true → ∀ x, x ∈ w.te.timers ↔
            (x ∈ s.table.timers ∧ ∀ d j, x = .linger d j → j.origin ≠ n) ∨
            ∃ r ∈ kept, r.key.origin = n ∧ r.state = .cleared ∧ ∃ at', r.clearedAt = some at' ∧
              at' + f.window ≤ s.nowSec ∧ x = .linger (at' + f.window) r.key)) ∧
        (f.part = none →
          findRecord w.te.cft k = none ∧ (∀ j, j ≠ k → findRecord w.te.cft j = findRecord left j) ∧
          w.te = { te with cft := w.te.cft } ∧ w.changed = [] ∧ w.inserted = [] ∧ w.refused = false ∧
          w.removed = removed ++ (match findRecord left k with
            | some r => [(k, .recordRemoved (r.item s.table.groups) .sweep)]
            | none => [])) ∧
        (∀ a, f.part = some a →
          (findRecord left k = none → a.state = .cleared →
            w.te = { te with cft := left, moot := s.table.moot + 1 } ∧ w.changed = [] ∧ w.inserted = [] ∧
            w.removed = removed ∧ w.refused = false) ∧
          (∀ new, findRecord left k = none → a.state = .opened →
            new = { key := k, kind := .station, conds := a.conds, state := .opened, flapping := false, group := 0
                    parent := none, version := a.version, raisedAt := s.raisedAt a.age, occurrences := 1
                    ackMark := a.ack, lastHeard := some s.nowSec, freshness := .fresh, clearedAt := none } →
            (peerCount s.own left < 959 → w.te = { te with cft := w.te.cft } ∧
              findRecord w.te.cft k = some new ∧ (∀ j, j ≠ k → findRecord w.te.cft j = findRecord left j) ∧
              w.changed = [k] ∧ w.inserted = [k] ∧ w.removed = removed ∧ w.refused = false) ∧
            (∀ v, 959 ≤ peerCount s.own left →
              evictionChoice s.own { s.table with cft := left } (severityOf a.conds) = some v →
              findRecord w.te.cft v.key = none ∧ findRecord w.te.cft k = some new ∧
              (∀ j, j ≠ k → j ≠ v.key → findRecord w.te.cft j = findRecord left j) ∧
              w.te = { te with cft := w.te.cft, evictions := s.table.evictions + 1 } ∧ w.changed = [k] ∧ w.inserted = [k] ∧ w.refused = false ∧
              w.removed = removed ++ [(v.key, .recordRemoved (v.item s.table.groups) .eviction)]) ∧
            (959 ≤ peerCount s.own left →
              evictionChoice s.own { s.table with cft := left } (severityOf a.conds) = none →
              w.te = { te with
                cft := left, refusedInserts := s.table.refusedInserts + 1, tableFull := true } ∧ w.refused = true ∧
              t.table.tableFull = true ∧ ⟨.tableEngine, .tableFull, true⟩ ∈ t.origin.stationIn ∧ w.changed = [] ∧
              w.inserted = [] ∧ w.removed = removed)) ∧
          (∀ r, findRecord left k = some r →
            (∀ j, j ≠ k → findRecord w.te.cft j = findRecord left j) ∧ w.inserted = [] ∧ w.removed = removed ∧
            w.refused = false ∧ (judgeVersion a.version r.version ≠ .older → w.te = { te with cft := w.te.cft }) ∧
            (judgeVersion a.version r.version = .newer → w.changed = [k] ∧
              findRecord w.te.cft k = some
              { key := k, kind := .station, conds := a.conds, state := a.state, flapping := false, group := 0
                parent := none, version := a.version, raisedAt := s.raisedAt a.age, occurrences := r.occurrences
                ackMark := a.ack, lastHeard := some s.nowSec, freshness := .fresh
                clearedAt := if a.state = .cleared then some s.nowSec else none }) ∧
            (judgeVersion a.version r.version = .same →
              w.changed = (if r.freshness = .stale then [k] else []) ∧
              findRecord w.te.cft k = some { r with lastHeard := some s.nowSec, freshness := .fresh }) ∧
            (judgeVersion a.version r.version = .older →
              w.te = { te with cft := left, old := s.table.old + 1 } ∧ w.changed = []))) ∧
        (w.dirty = true ↔ gone ≠ [] ∨ swept ≠ [] ∨ (∃ v, evicts v) ∨
          (f.part = none ∧ findRecord left k ≠ none) ∨
          ∃ a, f.part = some a ∧ ((findRecord left k = none ∧ a.state = .opened ∧ peerCount s.own left < 959) ∨
            ∃ r, findRecord left k = some r ∧ judgeVersion a.version r.version ≠ .older)) ∧
        w.touched.Pairwise (· < ·) ∧
        (∀ g, g ∈ w.touched ↔ ∃ r, r.kind = .supply ∧ r.group = g ∧ (r ∈ gone ∨ r ∈ swept ∨ evicts r ∨
          (findRecord left k = some r ∧ ∀ a, f.part = some a → judgeVersion a.version r.version = .newer)))

/-- An ACKNOWLEDGE addressed to this station is handed to the Origin Unit and any other is discarded; a frame of any kind that fails the content check is discarded and counted as bad; either claim closes with no work done (R13, R116, R126). -/
def Obligations.AcknowledgesAndBadContentAreTaken : Prop :=
  ∀ (n : Nat) (b : List Byte) (s : State),
    (∀ (a : AckBody) (u : State), s.nextClaim = some (.frame ⟨n, .acknowledge, b⟩) → readAcknowledge b = some a →
      u = { s with
        rx := { s.rx with queue := s.rx.queue.drop 1 }
        origin := { s.origin with
          acksIn := if a.origin = s.own then s.origin.acksIn ++ [⟨n, a.tag, a.point, a.seen⟩]
            else s.origin.acksIn } } →
      ∃ t, exec .acknowledgeFrame s = .next t ∧ t = State.closeClaim u (Work.begin s.table) [] ∧
        t.table.cft = s.table.cft ∧ t.table.groups = s.table.groups ∧
        t = { u with table := t.table, origin := { u.origin with stationIn := t.origin.stationIn } }) ∧
    (∀ (k : FrameKind) (i : Instr) (u : State),
      (k = .record ∧ i = .recordFrame ∧ readRecord b = none ∨ k = .roll ∧ i = .rollFrame ∧ readRoll b = none ∨
        k = .acknowledge ∧ i = .acknowledgeFrame ∧ readAcknowledge b = none) →
      s.nextClaim = some (.frame ⟨n, k, b⟩) →
      u = { s with rx := { s.rx with queue := s.rx.queue.drop 1, badFrames := s.rx.badFrames + 1 } } →
      ∃ t, exec i s = .next t ∧ t = State.closeClaim u (Work.begin s.table) [] ∧
        t.table.cft = s.table.cft ∧ t.table.groups = s.table.groups ∧
        t = { u with table := t.table, origin := { u.origin with stationIn := t.origin.stationIn } })

/-- A page build posts the next items of its source after the cursor (every item at the start, otherwise those of a greater key, station or group), filtered for the table, at most 8, 16 or 16, and DUMP-END(COMPLETE) where the page is not full; the cursor moves to the last item, and the request service is FREE; for the tables the claim closes with no work done (R13, R176, R177). -/
def Obligations.PageBuildPostsThePage : Prop :=
  ∀ (src : DumpSource) (cur next : Cursor) (items : PageItems) (full : Bool) (s : State) (afterKey : Key → Bool)
      (afterStation afterGroup : Nat → Bool),
    afterKey = (fun k => match cur with
      | .record j => decide (j.origin < k.origin ∨ (j.origin = k.origin ∧ j.point < k.point))
      | _ => true) →
    afterStation = (fun n => match cur with
      | .station m => decide (m < n)
      | _ => true) →
    afterGroup = (fun g => match cur with
      | .group h => decide (h < g)
      | _ => true) →
    s.nextClaim = some (.page src cur) →
    (src = .table → items = .table ((((s.table.cft.filter (fun r => afterKey r.key)).map
      (fun r => r.item s.table.groups)).filter s.port.filter.passesItem).take 8)) →
    (src = .roster → items = .roster ((s.roster.entries.filter (fun e => afterStation e.station)).take 16)) →
    (src = .groups → items = .groups (((s.table.groups.filter (fun e => afterGroup e.group)).take 16).map
      (fun e => { entry := e, heldCount := heldCount s.table.cft e.group }))) →
    next = (match items with
      | .table l => (l.getLast?.map (fun i => .record i.record.key)).getD cur
      | .roster l => (l.getLast?.map (fun e => .station e.station)).getD cur
      | .groups l => (l.getLast?.map (fun i => .group i.entry.group)).getD cur) →
    full = decide ((match items with
      | .table l => l.length
      | .roster l => l.length
      | .groups l => l.length) = match src with
      | .table => 8
      | .roster => 16
      | .groups => 16) →
    ∃ t closed, exec .pageBuild s = .next t ∧ closed = State.closeClaim s (Work.begin s.table) [] ∧
      closed = { s with
        table := closed.table, origin := { s.origin with stationIn := closed.origin.stationIn } } ∧
      closed.table.cft = s.table.cft ∧ closed.table.groups = s.table.groups ∧
      t = { closed with
        port := { s.port with
          reports := s.port.reports ++ .page items :: (if full then [] else [.dumpEnd .complete])
          dump := if full then .opened src next none else .none
          service := .free } }

/-! ### The corridor line (chapters 5 and 6) -/

/-- A character heard while nothing is sent begins a run or joins the one held within 2c, and the line's idle time starts again; a run whose gap has passed closes first (R131, R137, log 3). With no profile in force, as in LOADING and HALTED, the line is not read: the commands of the line change nothing, the line clock included (R130, R195). -/
def Obligations.LineCharacterJoinsTheRun : Prop :=
  (∀ (char : Byte) (stopFound : Bool) (dt c : Nat) (s : State), s.running = true → c = s.rx.clock + dt →
    (s.tx.state.isSending = false →
      (s.rx.run = none → exec (.lineCharacterHeard char stopFound dt) s = .next { s with rx := { s.rx with
        clock := c, lastHeard := c, run := some ⟨[char], !stopFound, c, false⟩ } }) ∧
      (∀ r, s.rx.run = some r → c ≤ r.last + 320 →
        exec (.lineCharacterHeard char stopFound dt) s = .next { s with rx := { s.rx with
          clock := c, lastHeard := c
          run := some { r with chars := r.chars ++ [char], bad := r.bad || !stopFound, last := c } } })) ∧
    (∀ r, s.rx.run = some r → r.last + 320 < c →
      ∃ u, exec (.runClose dt) s = .next u ∧
        exec (.lineCharacterHeard char stopFound dt) s = exec (.lineCharacterHeard char stopFound 0) u)) ∧
  (∀ (char : Byte) (stopFound : Bool) (dt : Nat) (i : Instr) (s : State), s.loader.profile = none →
    i ∈ [Instr.lineCharacterHeard char stopFound dt, .echoTimeout dt, .runClose dt] → exec i s = .next s)

/-- A run is a valid frame exactly when every check of R132 passes, and of an unknown kind exactly when only the kind is unknown (R132, R204, R205). The CRC starts at all ones and takes each byte most significant bit first with the generator 1021 hexadecimal (R134). -/
def Obligations.RunsAreJudgedByTheirFrame : Prop :=
  (∀ (lacked sound : Bool) (chars : List Byte) (n : Nat) (f : PeerFrame), n = byteAt chars 3 →
    sound = (!lacked && decide (chars.length = 6 + n ∧ n ≤ 56 ∧ chars.head? = some 0xC5 ∧
      (crc16 ((chars.drop 1).take (3 + n))).toNat = wordAt chars (4 + n) ∧
      1 ≤ byteAt chars 1 ∧ byteAt chars 1 ≤ 250)) →
    (judgeRun lacked chars = .valid f ↔ sound = true ∧ f.sender = byteAt chars 1 ∧
      f.body = (chars.drop 4).take n ∧
      (byteAt chars 2 = 1 ∧ f.kind = .roll ∧ (n = 12 ∨ 19 ≤ n ∧ n ≤ 23) ∨
        byteAt chars 2 = 2 ∧ f.kind = .record ∧ n = 16 ∨ byteAt chars 2 = 3 ∧ f.kind = .acknowledge ∧ n = 5)) ∧
    (judgeRun lacked chars = .unknownKind ↔ sound = true ∧ (byteAt chars 2 = 0 ∨ 3 < byteAt chars 2))) ∧
  (∀ l : List Byte, crc16 l =
    (l.flatMap (fun x => (List.range 8).map (fun i => x.getMsbD i))).foldl
      (fun (reg : Word16) bit => if reg.getMsbD 0 ≠ bit then (reg <<< 1) ^^^ 0x1021 else reg <<< 1) 0xFFFF)

/-- A run that closes outside an attempt: the echo run of an attempt that has failed is discarded uncounted (R133; log 10); a bad one and one of unknown kind are counted and discarded; a valid frame moves the turn, one that bears this station's number raises NUMBER-CLASH and restarts its timer of W, and any other arrives as a peer frame (R106, R132, R133, R135, R138). With no run held, or before its gap has passed, only line time passes (logs 2 and 4). -/
def Obligations.ClosedRunIsTaken : Prop :=
  (∀ (dt c : Nat) (r : Run) (s u : State), s.running = true → s.rx.run = some r →
    c = s.rx.clock + dt → r.last + 320 ≤ c → u = { s with rx := { s.rx with clock := c, run := none } } →
    (r.echo = true → s.tx.state.isSending = false → exec (.runClose dt) s = .next u) ∧
    (r.echo = false → judgeRun r.bad r.chars = .bad → exec (.runClose dt) s =
      .next { u with rx := { u.rx with badFrames := s.rx.badFrames + 1 } }) ∧
    (r.echo = false → judgeRun r.bad r.chars = .unknownKind → exec (.runClose dt) s =
      .next { u with rx := { u.rx with unknownKinds := s.rx.unknownKinds + 1 } }) ∧
    (∀ f, r.echo = false → judgeRun r.bad r.chars = .valid f → f.sender = s.own → exec (.runClose dt) s =
      .next { u with
        rx := { u.rx with clashEnd := some (s.now + s.window * 100) }
        tx := { s.tx with turn := s.tx.turn + 1 }
        origin := { s.origin with stationIn := s.origin.stationIn ++ [⟨.lineReceiver, .numberClash, true⟩] } }) ∧
    (∀ f, r.echo = false → judgeRun r.bad r.chars = .valid f → f.sender ≠ s.own → exec (.runClose dt) s =
      .next (State.frameArrives { u with tx := { s.tx with turn := s.tx.turn + 1 } } f))) ∧
  (∀ (dt : Nat) (s : State), s.running = true →
    (∀ r, s.rx.run = some r → s.rx.clock + dt < r.last + 320) →
    exec (.runClose dt) s = .next { s with rx := { s.rx with clock := s.rx.clock + dt } })

/-- Each peer frame is queued, shed or lost by its kind, its cause, its station part and the occupancy, and is counted once; the queue never exceeds 32; and its sender is heard, whatever its fate, with no tag, window or record stored (R106, R108, R112). -/
def Obligations.PeerFramesAreQueuedShedOrLost : Prop :=
  ∀ (f : PeerFrame) (occupancy : Nat) (repeats : Bool) (s t : State),
    t = s.frameArrives f → occupancy = s.rx.queue.length →
    repeats = decide (f.kind = .record ∧ bitAt f.body 5 2 = true ∨ f.kind = .roll ∧ f.body.length = 12) →
    (occupancy < 32 ∧ (occupancy < s.shedThreshold ∨ repeats = false) →
      t.rx = { s.rx with queue := s.rx.queue ++ [f], queued := s.rx.queued + 1 }) ∧
    (occupancy < 32 ∧ s.shedThreshold ≤ occupancy ∧ repeats = true →
      t.rx = { s.rx with shed := s.rx.shed + 1 }) ∧
    (32 ≤ occupancy → t.rx = { s.rx with lost := s.rx.lost + 1 }) ∧
    (occupancy ≤ 32 → t.rx.queue.length ≤ 32) ∧
    t = { s with rx := t.rx, roster := t.roster } ∧
    (∀ m, m ≠ f.sender → t.roster.find m = s.roster.find m) ∧
    (s.roster.find f.sender = none →
      t.roster.find f.sender = some ⟨f.sender, .present, s.nowSec, 0, none, 1⟩ ∧ t.roster.events = s.roster.events) ∧
    (∀ e, s.roster.find f.sender = some e →
      t.roster.find f.sender =
        some { e with state := .present, lastHeard := s.nowSec, framesHeard := e.framesHeard + 1 } ∧
      (e.state = .present → t.roster.events = s.roster.events) ∧
      (e.state = .silent → t.roster.events =
        if f.sender ∈ s.roster.events.map (·.station)
          then s.roster.events.filter (fun x => decide (x.station ≠ f.sender))
          else s.roster.events ++ [⟨f.sender, .present⟩]))

/-- At an access moment of a WAITING transmitter in IN-STEP, outside a REJOIN, after the required quiet of 4c, the stagger and the backoff, the current send goes on, or the first of urgent change, ack slot, ordinary change and refresh is sent, its frame built then; with nothing pending, or with the current send's item gone, no attempt starts and the transmitter returns to IDLE, or to WAITING where work is pending. A change entry or a refresh of slot 0 builds a ROLL with the run tag, the window, the open set and slot 0's record if it has one, any other slot's a RECORD marked REFRESH where the walk sends it, each with the age of its record and noted with the version it carries; the ack slot builds an ACKNOWLEDGE (R99 to R101, R136, R137, R139, R141, R199). Before the quiet has passed only time passes (log 2), and the same while the character of a failed attempt is being finished (R143; log 29); the command carries the line time (log 4). Outside IN-STEP, during a REJOIN and while the transmitter is not WAITING only line time passes; a run whose gap has passed closes first (log 3); and with no profile in force, as in LOADING and HALTED, nothing changes (R136, R195). -/
def Obligations.AccessMomentStartsAnAttempt : Prop :=
  (∀ (dt c quiet : Nat) (s u : State) (released : Prop), s.loader.state = .inStep → s.loader.rejoin = none →
    s.running = true → s.tx.state = .waiting → c = s.rx.clock + dt → (∀ r, s.rx.run = some r → c ≤ r.last + 320) →
    quiet = (4 + (s.own + s.tx.turn.toNat) % 16 + (s.tx.current.map (·.backoff)).getD 0) * 160 →
    u = { s with rx := { s.rx with clock := c } } → released = (∀ e, s.tx.outEnd = some e → e ≤ c) →
    (c < s.rx.lastHeard + quiet ∨ ¬released → exec (.accessMoment dt) s = .next u) ∧
    (∀ cur fr, s.rx.lastHeard + quiet ≤ c → released → s.tx.current = some cur → s.buildFrame cur.item = some fr →
      exec (.accessMoment dt) s = .next { u with tx := { s.tx with
        current := some { cur with backoff := 0 }, state := .sending ⟨fr.1, c, fr.2, 0⟩, outEnd := none } }) ∧
    (∀ cur, s.rx.lastHeard + quiet ≤ c → released → s.tx.current = some cur → s.buildFrame cur.item = none →
      exec (.accessMoment dt) s = .next { u with tx := { s.tx with
        current := none
        state := if s.origin.changeQueue ≠ [] ∨ s.origin.ackSlot ≠ none ∨ s.origin.refreshDue ≠ none
          then .waiting else .idle } }) ∧
    (s.rx.lastHeard + quiet ≤ c → released → s.tx.current = none → s.origin.changeQueue = [] →
      s.origin.ackSlot = none → s.origin.refreshDue = none →
      exec (.accessMoment dt) s = .next { u with tx := { s.tx with state := .idle } }) ∧
    (∀ i fr, s.rx.lastHeard + quiet ≤ c → released → s.tx.current = none → s.buildFrame i = some fr →
      ((∃ k, s.origin.changeQueue.find? s.urgent = some k ∧ i = .change k) ∨
        (s.origin.changeQueue.find? s.urgent = none ∧
          ((s.origin.ackSlot ≠ none ∧ i = .ack) ∨
            (s.origin.ackSlot = none ∧
              ((∃ k, s.origin.changeQueue.find? (fun k => !s.urgent k) = some k ∧ i = .change k) ∨
                (s.origin.changeQueue.find? (fun k => !s.urgent k) = none ∧
                  ∃ k, s.origin.refreshDue = some k ∧ i = .refresh k)))))) →
      exec (.accessMoment dt) s = .next { u with
        tx := { s.tx with current := some ⟨i, 0, 0⟩, state := .sending ⟨fr.1, c, fr.2, 0⟩, outEnd := none }
        origin := { s.origin with
          refreshDue :=
            match i with
            | .refresh _ => none
            | _ => s.origin.refreshDue } })) ∧
  (∀ (s : State) (tag : Word16) (age : Record → Nat), s.origin.runTag = some tag →
    age = (fun r => min (s.nowSec - r.raisedAt) 1048575) →
    (∀ i, i ∈ [SendItem.change 0, .refresh 0] → s.buildFrame i = some
      (frameChars s.own .roll (writeRoll tag s.window
        (((List.range 64).map (· + 1)).filter (fun p => decide (∃ r ∈ (s.origin.slot p).record, r.state = .opened)))
        ((s.origin.slot 0).record.map (fun r => (r, age r)))),
       .roll ((s.origin.slot 0).record.map (·.version)) (s.origin.slot 0).version)) ∧
    (∀ k refresh i, k ≠ 0 → (i = .change k ∧ refresh = false ∨ i = .refresh k ∧ refresh = true) →
      s.buildFrame i = (s.origin.slot k).record.map (fun r =>
        (frameChars s.own .record (writeRecord tag r refresh (age r)), .record k (s.origin.slot k).version))) ∧
    s.buildFrame .ack = s.origin.ackSlot.map (fun a =>
      (frameChars s.own .acknowledge (writeAcknowledge a), .acknowledge))) ∧
  (∀ (dt : Nat) (s : State),
    (s.loader.profile = none → exec (.accessMoment dt) s = .next s) ∧
    (s.running = true →
      ((s.loader.state ≠ .inStep ∨ s.loader.rejoin ≠ none ∨ s.tx.state ≠ .waiting) →
        (∀ r, s.rx.run = some r → s.rx.clock + dt ≤ r.last + 320) →
        exec (.accessMoment dt) s = .next { s with rx := { s.rx with clock := s.rx.clock + dt } }) ∧
      (∀ r, s.rx.run = some r → r.last + 320 < s.rx.clock + dt →
        ∃ u, exec (.runClose dt) s = .next u ∧ exec (.accessMoment dt) s = exec (.accessMoment 0) u)))

/-- While an attempt is sent, each character heard in its echo run must be the next one sent, by 2c after its own (and with its stop bit, the model's reading of "identical", log 32); a wrong, late or missing one fails the attempt; at the run's close the attempt succeeds where every character has returned and no other was heard (R133, R141 to R143). A character that begins a run after the time for the echo has passed finds the attempt failed, and its run is no echo run (R133; log 3). That an echo run which closes before every character has returned, or which holds a further character, fails the attempt at its close is the model's reading (log 10). Before its time ECHO_TIMEOUT has no effect (log 2) but that the line time it carries passes (log 4). The same while nothing is sent. -/
def Obligations.EchoDecidesTheAttempt : Prop :=
  (∀ (a : Attempt) (dt c : Nat) (s : State), s.running = true → s.tx.state = .sending a → c = s.rx.clock + dt →
    (∀ char stopFound joined u, (s.rx.run = none ∧ joined = ⟨[char], !stopFound, c, true⟩ ∨
        ∃ r, s.rx.run = some r ∧ r.echo = true ∧ c ≤ r.last + 320 ∧
          joined = { r with chars := r.chars ++ [char], bad := r.bad || !stopFound, last := c }) →
      u = { s with rx := { s.rx with clock := c, lastHeard := c, run := some joined } } →
      (stopFound = true → a.frame[a.returned]? = some char → c ≤ a.start + (a.returned + 1) * 160 + 320 →
        exec (.lineCharacterHeard char stopFound dt) s =
          .next { u with tx := { s.tx with state := .sending { a with returned := a.returned + 1 } } }) ∧
      (a.returned < a.frame.length → (stopFound = false ∨ a.frame[a.returned]? ≠ some char) →
          c ≤ a.start + (a.returned + 1) * 160 + 320 →
        exec (.lineCharacterHeard char stopFound dt) s = .next u.attemptFail) ∧
      (a.returned < a.frame.length → a.start + (a.returned + 1) * 160 + 320 < c → s.rx.run ≠ none →
        exec (.lineCharacterHeard char stopFound dt) s = .next u.attemptFail) ∧
      (a.frame.length ≤ a.returned → exec (.lineCharacterHeard char stopFound dt) s = .next u)) ∧
    (∀ char stopFound u, s.rx.run = none → a.returned < a.frame.length →
      a.start + (a.returned + 1) * 160 + 320 < c → u = { s with rx := { s.rx with clock := c } } →
      ∃ v, v = u.attemptFail ∧ v.tx.state.isSending = false ∧
        exec (.echoTimeout dt) s = .next v ∧
        exec (.lineCharacterHeard char stopFound dt) s = exec (.lineCharacterHeard char stopFound 0) v) ∧
    (∀ u, u = { s with rx := { s.rx with clock := c } } →
      (a.returned < a.frame.length → a.start + (a.returned + 1) * 160 + 320 ≤ c →
        exec (.echoTimeout dt) s = .next u.attemptFail) ∧
      (a.frame.length ≤ a.returned ∨ c < a.start + (a.returned + 1) * 160 + 320 →
        exec (.echoTimeout dt) s = .next u)) ∧
    (∀ r u, s.rx.run = some r → r.echo = true → r.last + 320 ≤ c →
      u = { s with rx := { s.rx with clock := c, run := none } } →
      (a.returned = a.frame.length → r.chars.length = a.frame.length →
        exec (.runClose dt) s = .next (u.attemptSucceed a)) ∧
      (a.returned ≠ a.frame.length ∨ r.chars.length ≠ a.frame.length →
        exec (.runClose dt) s = .next u.attemptFail))) ∧
  (∀ (dt : Nat) (s : State), s.running = true → s.tx.state.isSending = false →
    exec (.echoTimeout dt) s = .next { s with rx := { s.rx with clock := s.rx.clock + dt } })

/-- A failed attempt counts a collision and a consecutive failure, and the character being put out is finished: the 16th consecutive failure enters MUTE for 60 s with LINE-MUTE raised and the send set aside, the ack slot and the change queue left as they are and nothing reported to the terminal; a send's eighth abandons it; otherwise it is retried with a backoff of 16c times a number below 2 to the min of its failures and 5 (R140, R143, R146 to R148). A send whose item has gone meanwhile ends, and a refresh send of slot 0 keeps its item with or without a record (the model's choices, log 20). An ended send leaves the transmitter WAITING in IN-STEP with work pending, IDLE otherwise. During a REJOIN no backoff is drawn, nothing is abandoned and no MUTE entered (R152; that the consecutive failures still rise is the model's reading, log 10). When the character ends is the model's reading of R143 (log 29). -/
def Obligations.FailedAttemptIsRetriedAbandonedOrMutes : Prop :=
  (∀ (cur : CurrentSend) (n : Nat) (s t : State), s.tx.current = some cur → s.loader.rejoin = none →
    n = min (s.tx.failures + 1) 16 → t = s.attemptFail →
    t.tx.collisions = s.tx.collisions + 1 ∧ t.tx.failures = n ∧ t.tx.turn = s.tx.turn ∧
    t.rx = s.rx ∧ t.table = s.table ∧ t.field = s.field ∧ t.roster = s.roster ∧ t.time = s.time ∧
    t.pending = s.pending ∧
    (n = 16 →
      t.loader = { s.loader with state := .mute } ∧ t.port = s.port ∧ t.tx.state = .idle ∧ t.tx.current = none ∧
      t.tx.muteEnd = some (s.now + 6000) ∧ t.tx.clearEnd = none ∧ t.tx.awaited = true ∧
      t.tx.abandoned = s.tx.abandoned ∧
      t.origin = { s.origin with
        stationIn := s.origin.stationIn ++ [⟨.lineTransmitter, .lineMute, true⟩]
        refreshDue := none
        slips := s.origin.slips + (match cur.item with
            | .refresh _ => 1
            | _ => 0) +
          (if s.origin.refreshDue = none then 0 else 1) }) ∧
    (n < 16 → t.loader = s.loader ∧
      t.tx.muteEnd = s.tx.muteEnd ∧ t.tx.clearEnd = s.tx.clearEnd ∧ t.tx.awaited = s.tx.awaited) ∧
    (n < 16 → 8 ≤ cur.fails + 1 →
      t.tx.current = none ∧ t.tx.abandoned = s.tx.abandoned + 1 ∧
      t.tx.state = (if s.loader.state = .inStep ∧
          (t.origin.changeQueue ≠ [] ∨ t.origin.ackSlot ≠ none ∨ t.origin.refreshDue ≠ none)
        then .waiting else .idle) ∧
      (∀ k, cur.item = .change k → t.port = s.port ∧
        t.origin = { s.origin with changeQueue := s.origin.changeQueue.filter (fun j => decide (j ≠ k)) }) ∧
      (∀ a, cur.item = .ack → s.origin.ackSlot = some a → t.origin = { s.origin with ackSlot := none } ∧
        t.port = s.port.gate { report := .ackUnsent a.origin a.point a.seen, before := none }) ∧
      (cur.item = .ack → s.origin.ackSlot = none → t.origin = s.origin ∧ t.port = s.port) ∧
      (∀ k, cur.item = .refresh k → t.origin = s.origin ∧ t.port = s.port)) ∧
    (n < 16 → cur.fails + 1 < 8 → s.itemStands cur.item = true →
      t.tx.state = .waiting ∧ t.tx.abandoned = s.tx.abandoned ∧ t.origin = s.origin ∧ t.port = s.port ∧
      ∃ r, r < 2 ^ min (cur.fails + 1) 5 ∧
        t.tx.current = some { cur with fails := cur.fails + 1, backoff := r * 16 }) ∧
    (n < 16 → cur.fails + 1 < 8 → s.itemStands cur.item = false →
      t.tx.current = none ∧ t.tx.abandoned = s.tx.abandoned ∧ t.origin = s.origin ∧ t.port = s.port ∧
      t.tx.state = (if s.loader.state = .inStep ∧
          (s.origin.changeQueue ≠ [] ∨ s.origin.ackSlot ≠ none ∨ s.origin.refreshDue ≠ none)
        then .waiting else .idle)) ∧
    (s.itemStands cur.item = true ↔ (∀ k, cur.item = .change k → k ∈ s.origin.changeQueue) ∧
      (∀ k, cur.item = .refresh k → k = 0 ∨ (s.origin.slot k).record ≠ none) ∧
      (cur.item = .ack → s.origin.ackSlot ≠ none))) ∧
  (∀ (cur : CurrentSend) (s : State), s.tx.current = some cur → s.loader.rejoin ≠ none →
    s.attemptFail = { s with tx := { s.tx with
      state := .idle, collisions := s.tx.collisions + 1, failures := min (s.tx.failures + 1) 16
      outEnd := s.attemptFail.tx.outEnd } }) ∧
  (∀ (a : Attempt) (s : State), s.tx.state = .sending a →
    s.attemptFail.tx.outEnd = some (a.start + min a.frame.length ((s.rx.clock - a.start) / 160 + 1) * 160))

/-- A successful attempt moves the turn, clears the consecutive failures and ends the send, the transmitter being WAITING in IN-STEP with work pending and IDLE otherwise; a slot still as the frame carried it is announced and its change entry retired; the ack slot empties; the first success after a MUTE starts the clear timer of W (R142, R144, R145, R147, R150). -/
def Obligations.SuccessfulAttemptClosesTheSend : Prop :=
  ∀ (a : Attempt) (s t : State), s.origin.slots.length = 65 → t = s.attemptSucceed a →
    t = { s with origin := t.origin, tx := t.tx } ∧
    t.tx.turn = s.tx.turn + 1 ∧ t.tx.failures = 0 ∧ t.tx.current = none ∧ t.tx.awaited = false ∧
    t.tx.state = (if s.loader.state = .inStep ∧
        (t.origin.changeQueue ≠ [] ∨ t.origin.ackSlot ≠ none ∨ t.origin.refreshDue ≠ none)
      then .waiting else .idle) ∧
    t.tx.clearEnd = (if s.tx.awaited then some (s.now + s.window * 100) else s.tx.clearEnd) ∧
    t.tx.collisions = s.tx.collisions ∧ t.tx.abandoned = s.tx.abandoned ∧ t.tx.muteEnd = s.tx.muteEnd ∧
    (∀ k v, k ≤ 64 → (a.carried = .record k v ∨ k = 0 ∧ ∃ counter, a.carried = .roll (some v) counter) →
      ((∃ r, (s.origin.slot k).record = some r ∧ r.version = v) →
        t.origin.slot k = { s.origin.slot k with announced := true } ∧
        (∀ j, j ≠ k → t.origin.slot j = s.origin.slot j) ∧
        t.origin = { s.origin with
          slots := t.origin.slots
          changeQueue := s.origin.changeQueue.filter (fun j => decide (j ≠ k)) }) ∧
      ((∀ r, (s.origin.slot k).record = some r → r.version ≠ v) → t.origin = s.origin)) ∧
    (∀ counter, a.carried = .roll none counter →
      ((s.origin.slot 0).record = none ∧ (s.origin.slot 0).version = counter →
        t.origin = { s.origin with changeQueue := s.origin.changeQueue.filter (fun j => decide (j ≠ 0)) }) ∧
      (¬((s.origin.slot 0).record = none ∧ (s.origin.slot 0).version = counter) → t.origin = s.origin)) ∧
    (a.carried = .acknowledge → t.origin = { s.origin with ackSlot := none })

/-- The clash timer's end clears NUMBER-CLASH, the mute timer's end returns to IN-STEP with one failure left before the next MUTE, and the clear timer's end clears LINE-MUTE (R135, R149, R150). Before its end, with the timer idle, or for the mute timer outside MUTE, the command changes nothing (R192; log 2). -/
def Obligations.LineTimersEnd : Prop :=
  (∀ (e : Nat) (s : State), e ≤ s.now →
    (s.rx.clashEnd = some e → exec .clashTimerEnd s = .next { s with
      rx := { s.rx with clashEnd := none }
      origin := { s.origin with stationIn := s.origin.stationIn ++ [⟨.lineReceiver, .numberClash, false⟩] } }) ∧
    (s.tx.clearEnd = some e → exec .lineMuteClearTimerEnd s = .next { s with
      tx := { s.tx with clearEnd := none }
      origin := { s.origin with stationIn := s.origin.stationIn ++ [⟨.lineTransmitter, .lineMute, false⟩] } }) ∧
    (s.tx.muteEnd = some e → s.loader.state = .mute → s.tx.state = .idle →
      exec .muteEnd s = .next { s with
        loader := { s.loader with state := .inStep }
        tx := { s.tx with
          muteEnd := none, failures := 15
          state := if s.origin.changeQueue ≠ [] ∨ s.origin.ackSlot ≠ none ∨ s.origin.refreshDue ≠ none
            then .waiting else .idle } })) ∧
  (∀ s : State,
    ((∀ e, s.rx.clashEnd = some e → s.now < e) → exec .clashTimerEnd s = .next s) ∧
    ((∀ e, s.tx.clearEnd = some e → s.now < e) → exec .lineMuteClearTimerEnd s = .next s) ∧
    (s.loader.state ≠ .mute ∨ (∀ e, s.tx.muteEnd = some e → s.now < e) → exec .muteEnd s = .next s))

/-! ### The dispatcher port (chapters 7 and 8) -/

/-- The assembler gathers a request from its start byte, judges it when its length is complete, ignores the rest of an over-long one, and gives up after a gap of 100 ms; a finished request joins the request queue, or is discarded and counted where 8 wait (R166, R167, log 3, log 11). A request is malformed where a character lacked its stop bit, the sum of its characters is not 0, the type is none of the seven, the length is not the type's, or a severity, a kind or option bit, or a source lies outside its values; otherwise it is read field by field (R166, R209, R210, R213). Before the gap has passed, with nothing gathered, or with nothing finished, the command changes nothing (log 2). -/
def Obligations.RequestsAreGathered : Prop :=
  (∀ (char : Byte) (stopFound : Bool) (s : State) (put : RequestAssembler → List Request → State),
    put = (fun a done => { s with port := { s.port with assembler := a, finished := s.port.finished ++ done } }) →
    (s.port.assembler = .idle →
      (char = 0xF0 → exec (.requestCharacterTaken char stopFound) s = .next (put (.gathering [] (!stopFound) s.now) [])) ∧
      (char ≠ 0xF0 → exec (.requestCharacterTaken char stopFound) s = .next s)) ∧
    (∀ chars spoiled last all bad, s.port.assembler = .gathering chars spoiled last → s.now ≤ last + 10 →
      all = chars ++ [char] → bad = (spoiled || !stopFound) →
      exec (.requestCharacterTaken char stopFound) s = .next
        (if all.length < 2 then put (.gathering all bad s.now) []
         else if 16 < byteAt all 1 then put (.ignoring s.now) [.malformed (all.headD 0)]
         else if all.length < 3 + byteAt all 1 then put (.gathering all bad s.now) []
         else put .idle [judgeRequest bad all])) ∧
    (∀ last, s.port.assembler = .ignoring last → s.now ≤ last + 10 →
      exec (.requestCharacterTaken char stopFound) s = .next (put (.ignoring s.now) [])) ∧
    (∀ chars spoiled last, s.port.assembler = .gathering chars spoiled last → last + 10 < s.now →
      exec (.requestCharacterTaken char stopFound) s =
        exec (.requestCharacterTaken char stopFound) (put .idle [.malformed (chars.headD 0)])) ∧
    (∀ last, s.port.assembler = .ignoring last → last + 10 < s.now →
      exec (.requestCharacterTaken char stopFound) s = exec (.requestCharacterTaken char stopFound) (put .idle [])) ∧
    (∀ r rest, s.port.finished = r :: rest →
      (s.port.requests.length < 8 → exec .requestComplete s =
        .next { s with port := { s.port with finished := rest, requests := s.port.requests ++ [r] } }) ∧
      (8 ≤ s.port.requests.length → exec .requestComplete s =
        .next { s with port := { s.port with finished := rest, discarded := s.port.discarded + 1 } })) ∧
    (∀ chars spoiled last p, s.port.assembler = .gathering chars spoiled last → last + 10 ≤ s.now →
      p = (s.port.finished ++ [Request.malformed (chars.headD 0)]).foldl DispatcherPort.offer
        { s.port with finished := [], assembler := .idle } →
      exec .requestGapTimeout s = .next { s with port := p }) ∧
    (∀ last, s.port.assembler = .ignoring last → last + 10 ≤ s.now →
      exec .requestGapTimeout s = .next { s with port := { s.port with assembler := .idle } }) ∧
    (∀ (spoiled : Bool) (type sum : Byte) (body chars : List Byte) (judged : Request), body.length ≤ 16 →
      chars = type :: BitVec.ofNat 8 body.length :: (body ++ [sum]) → judged = judgeRequest spoiled chars →
      (spoiled = true ∨ type + BitVec.ofNat 8 body.length + body.foldr (· + ·) 0 + sum ≠ 0 → judged = .malformed type) ∧
      (spoiled = false → type + BitVec.ofNat 8 body.length + body.foldr (· + ·) 0 + sum = 0 →
        (type = 1 → body = [] → judged = .status) ∧ (type = 4 → body = [] → judged = .next) ∧
        (type = 5 → body = [] → judged = .stop) ∧ (type = 7 → body = [] → judged = .rejoin) ∧
        (∀ src, type = 3 → body = [src] →
          (src = 1 → judged = .dump .table) ∧ (src = 2 → judged = .dump .roster) ∧ (src = 3 → judged = .dump .groups) ∧
          (src = 0 ∨ 3 < src.toNat → judged = .malformed type)) ∧
        (∀ origin point seen, type = 6 → body = [origin, point, seen] →
          judged = .ack origin.toNat point.toNat seen) ∧
        (∀ severity kinds options, type = 2 → body = [severity, kinds, options] →
          (1 ≤ severity.toNat ∧ severity.toNat ≤ 4 ∧ kinds.toNat < 32 ∧ options.toNat < 16 →
            judged = .view
              { minSeverity := severity.toNat
                kinds := (if kinds.getLsbD 0 then [.lamp] else []) ++ (if kinds.getLsbD 1 then [.loop] else []) ++
                  (if kinds.getLsbD 2 then [.sign] else []) ++ (if kinds.getLsbD 3 then [.supply] else []) ++
                  (if kinds.getLsbD 4 then [.station] else [])
                includeHeld := options.getLsbD 0, includeCleared := options.getLsbD 1
                includeStale := options.getLsbD 2 } (options.getLsbD 3)) ∧
          (¬(1 ≤ severity.toNat ∧ severity.toNat ≤ 4 ∧ kinds.toNat < 32 ∧ options.toNat < 16) →
            judged = .malformed type)) ∧
        (¬((type = 1 ∨ type = 4 ∨ type = 5 ∨ type = 7) ∧ body.length = 0 ∨
            (type = 2 ∨ type = 6) ∧ body.length = 3 ∨ type = 3 ∧ body.length = 1) →
          judged = .malformed type)))) ∧
  (∀ s : State,
    (s.port.assembler = .idle → exec .requestGapTimeout s = .next s) ∧
    (∀ chars spoiled last, s.port.assembler = .gathering chars spoiled last → s.now < last + 10 →
      exec .requestGapTimeout s = .next s) ∧
    (∀ last, s.port.assembler = .ignoring last → s.now < last + 10 → exec .requestGapTimeout s = .next s) ∧
    (s.port.finished = [] → exec .requestComplete s = .next s)) ∧
  (∀ (p : DispatcherPort) (r : Request), p.offer r =
    if p.requests.length < 8 then { p with requests := p.requests ++ [r] } else { p with discarded := p.discarded + 1 })

/-- The request service answers the head request with one report: STATUS at any time with the station as it stands, a malformed one with REFUSED(MALFORMED), VIEW with VIEW-OK after ending an active dump; in HALTED, VIEW, DUMP, NEXT, STOP and REJOIN are refused NOT-READY. DUMP begins a dump at the start or is refused BUSY; NEXT offers the page after the cursor, its idle deadline dropped, or is refused NO-DUMP; STOP ends the dump with its one reply or is refused NO-DUMP; DUMP and NEXT stay in service for their page. A request waits, and no command of the service has an effect, while the service is not FREE, in LOADING, while a DUMP-END waits, while the request at the head is another command's, and until the report queue has the places it needs: two for DUMP and NEXT, and for VIEW and REJOIN with a dump active, one otherwise (R166, R168, R169, R173, R175, R178 to R180, R182, R210; log 2). -/
def Obligations.RequestsAreAnswered : Prop :=
  (∀ (q : Request) (rest : List Request) (s : State) (places : Nat) (answered : List Report → State),
      s.port.service = .free → s.port.requests = q :: rest → s.loader.state ≠ .loading →
      places = (match q with
        | .dump _ | .next => 2
        | .view _ _ | .rejoin => if s.port.dump = .none then 1 else 2
        | _ => 1) →
      s.port.dumpEndWaiting = false → s.port.reports.length + places ≤ 64 →
      answered = (fun l => { s with port := { s.port with requests := rest, reports := s.port.reports ++ l } }) →
      (q = .status → exec .status s = .next (answered [.statusReply
        { state := s.loader.state, station := s.loader.number, runTag := s.origin.runTag
          tableFull := s.table.tableFull, groupTableFull := s.table.groupTableFull, groupClash := s.table.groupClash
          error := s.loader.error
          ownRecords := (s.table.cft.filter (fun r => decide (r.key.origin = s.own))).length
          peerRecords := (s.table.cft.filter (fun r => decide (r.key.origin ≠ s.own))).length
          groupEntries := s.table.groups.length
          presentPeers := (s.roster.entries.filter (fun e => decide (e.state = .present))).length
          silentPeers := (s.roster.entries.filter (fun e => decide (e.state = .silent))).length
          failures := s.tx.failures
          counters := [s.rx.badFrames, s.rx.unknownKinds, s.rx.queued, s.rx.shed, s.rx.lost, s.table.old,
            s.table.moot, s.table.refusedInserts, s.table.evictions, s.origin.slips, s.tx.collisions, s.tx.abandoned,
            s.origin.acksIgnored, s.field.malformedBursts, s.port.dropped, s.port.discarded] }])) ∧
      (∀ type, q = .malformed type →
        exec .malformedRequest s = .next (answered [.refused type .malformed 0 0])) ∧
      (∀ filter watch, q = .view filter watch → s.loader.state ≠ .halted →
        (s.port.dump = .none → exec .view s = .next { s with port := { s.port with
          requests := rest, reports := s.port.reports ++ [.viewOk], filter := filter, watch := watch } }) ∧
        (s.port.dump ≠ .none → exec .view s = .next { s with port := { s.port with
          requests := rest, reports := s.port.reports ++ [.dumpEnd .filterChanged, .viewOk]
          filter := filter, watch := watch, dump := .none } })) ∧
      (s.loader.state = .halted →
        (∀ filter watch, q = .view filter watch → exec .view s = .next (answered [.refused 2 .notReady 0 0])) ∧
        (∀ src, q = .dump src → exec .dump s = .next (answered [.refused 3 .notReady 0 0])) ∧
        (q = .next → exec .next s = .next (answered [.refused 4 .notReady 0 0])) ∧
        (q = .stop → exec .stop s = .next (answered [.refused 5 .notReady 0 0])) ∧
        (q = .rejoin → exec .rejoin s = .next (answered [.refused 7 .notReady 0 0])))) ∧
  (∀ (q : Request) (rest : List Request) (s : State) (answered : List Report → State),
      s.port.service = .free → s.port.requests = q :: rest → s.loader.state ≠ .loading → s.loader.state ≠ .halted →
      s.port.dumpEndWaiting = false → s.port.reports.length + (if q = .stop then 1 else 2) ≤ 64 →
      answered = (fun l => { s with port := { s.port with requests := rest, reports := s.port.reports ++ l } }) →
      (∀ src, q = .dump src →
        (s.port.dump = .none → exec .dump s = .next { s with port := { s.port with
          requests := rest, dump := .building src .start, service := .pageBuild } }) ∧
        (s.port.dump ≠ .none → exec .dump s = .next (answered [.refused 3 .busy 0 0]))) ∧
      (q = .next →
        (∀ src cur idle, s.port.dump = .opened src cur idle → exec .next s = .next { s with port := { s.port with
          requests := rest, dump := .building src cur, service := .pageBuild } }) ∧
        (s.port.dump = .none → exec .next s = .next (answered [.refused 4 .noDump 0 0]))) ∧
      (q = .stop →
        (∀ src cur idle, s.port.dump = .opened src cur idle → exec .stop s = .next { s with port := { s.port with
          requests := rest, reports := s.port.reports ++ [.dumpEnd .stopped], dump := .none } }) ∧
        (s.port.dump = .none → exec .stop s = .next (answered [.refused 5 .noDump 0 0])))) ∧
  (∀ (i : Instr) (s : State),
      i ∈ [Instr.status, .view, .dump, .next, .stop, .ack, .rejoin, .malformedRequest] →
      (s.port.service ≠ .free ∨ s.port.requests = [] ∨ s.loader.state = .loading ∨ s.port.dumpEndWaiting = true ∨
        ∃ q rest places, s.port.requests = q :: rest ∧
          places = (match q with
            | .dump _ | .next => 2
            | .view _ _ | .rejoin => if s.port.dump = .none then 1 else 2
            | _ => 1) ∧
          64 < s.port.reports.length + places) →
      exec i s = .next s) ∧
  (∀ (q : Request) (rest : List Request) (i own : Instr) (s : State), s.port.requests = q :: rest →
      own = (match q with
        | .status => Instr.status
        | .view _ _ => .view
        | .dump _ => .dump
        | .next => .next
        | .stop => .stop
        | .ack _ _ _ => .ack
        | .rejoin => .rejoin
        | .malformed _ => .malformedRequest) →
      i ∈ [Instr.status, .view, .dump, .next, .stop, .ack, .rejoin, .malformedRequest] → i ≠ own →
      exec i s = .next s)

/-- An ACK is checked in order: station state, record, OPEN, version, mark, then for a peer's record the origin PRESENT and the ack slot EMPTY; the first failure is its refusal; an own one stays in service for the origin, a peer's fills the ack slot with the origin's run tag and is answered QUEUED, and a transmitter then idle in IN-STEP becomes WAITING (R136, R155 to R158). That an origin without a roster entry is refused as SILENT, and one without a stored run tag gives tag 0, are the model's defaults for states that no run reaches (R115; log 26). -/
def Obligations.AcksAreCheckedInOrder : Prop :=
  ∀ (o p : Nat) (seen : Version) (rest : List Request) (s : State) (refused : RefusalReason → Outcome),
    s.port.service = .free → s.port.requests = .ack o p seen :: rest → s.loader.state ≠ .loading →
    s.port.dumpEndWaiting = false → s.port.reports.length + 1 ≤ 64 →
    refused = (fun reason => .next { s with port := { s.port with
      requests := rest, reports := s.port.reports ++ [.refused 6 reason o p] } }) →
    (s.loader.state ≠ .inStep → (o = s.own ∨ s.loader.state ≠ .mute) → exec .ack s = refused .notReady) ∧
    ((s.loader.state = .inStep ∨ (o ≠ s.own ∧ s.loader.state = .mute)) →
      (findRecord s.table.cft ⟨o, p⟩ = none → exec .ack s = refused .noRecord) ∧
      (∀ r, findRecord s.table.cft ⟨o, p⟩ = some r →
        (r.state = .cleared → exec .ack s = refused .notOpen) ∧
        (r.state = .opened → r.version ≠ seen → exec .ack s = refused .changed) ∧
        (r.state = .opened → r.version = seen → r.ackMark ≠ none → exec .ack s = refused .already) ∧
        (r.state = .opened → r.version = seen → r.ackMark = none →
          (o = s.own → exec .ack s = .next { s with port := { s.port with
            requests := rest, service := .ownAck o p seen } }) ∧
          (o ≠ s.own →
            ((∀ e, s.roster.find o = some e → e.state = .silent) → exec .ack s = refused .originSilent) ∧
            (∀ e, s.roster.find o = some e → e.state = .present →
              (s.origin.ackSlot ≠ none → exec .ack s = refused .busy) ∧
              (s.origin.ackSlot = none → ∃ t, exec .ack s = .next t ∧
                t.origin = { s.origin with
                  ackSlot := some { origin := o, point := p, seen := seen, tag := e.tag.getD 0 } } ∧
                t.port = { s.port with
                  requests := rest, reports := s.port.reports ++ [.ackReply o p .queued] } ∧
                t = { s with
                  origin := t.origin, port := t.port
                  tx := { s.tx with
                    state := if s.loader.state = .inStep ∧ s.tx.state = .idle then .waiting
                      else s.tx.state } }))))))

/-! ### REJOIN and entry to IN-STEP (chapters 2, 4, 6 and 9) -/

/-- REJOIN ends an active dump, stops the mute and LISTENING timers and stays in service; the transmitter's part, with no attempt on the line (and, which is the model's reading of R143, log 29, once the last character of a failed attempt has ended), drops the line work and the consecutive failures; when both parts are done and the conditions they cleared have reached the table (R183; log 30) the station enters LISTENING with a new timer, and REJOIN-OK frees the service (R104, R152, R183, R199 to R202). Until then either command has no effect (log 2). With no REJOIN in progress, or once its part is done, neither has one (R192). -/
def Obligations.RejoinIsCarriedOut : Prop :=
  ∀ (rest : List Request) (d : Bool) (s : State),
    (s.port.service = .free → s.port.requests = .rejoin :: rest → s.loader.state ≠ .loading →
      s.loader.state ≠ .halted → s.port.dumpEndWaiting = false →
      s.port.reports.length + (if s.port.dump = .none then 1 else 2) ≤ 64 →
      exec .rejoin s = .next { s with
        loader := { s.loader with rejoin := some ⟨false, false⟩, listenEnd := none }
        tx := { s.tx with muteEnd := none }
        port := { s.port with
          requests := rest, service := .rejoin, dump := .none
          reports := s.port.reports ++ if s.port.dump = .none then [] else [.dumpEnd .rejoin] } }) ∧
    (∀ quiet : Prop, quiet = (s.tx.state.isSending = false ∧ (∀ r, s.rx.run = some r → r.echo = false) ∧
        ∀ e, s.tx.outEnd = some e → e ≤ s.rx.clock) → ¬quiet → exec .transmitterRejoinPart s = .next s) ∧
    (s.loader.rejoin = some ⟨false, d⟩ → s.tx.state.isSending = false → (∀ r, s.rx.run = some r → r.echo = false) →
      (∀ e, s.tx.outEnd = some e → e ≤ s.rx.clock) →
      exec .transmitterRejoinPart s = .next { s with
        loader := { s.loader with rejoin := some ⟨true, d⟩ }
        tx := { s.tx with state := .idle, current := none, failures := 0, muteEnd := none }
        origin := { s.origin with
          changeQueue := [], ackSlot := none, refreshDue := none, pointer := 0, stepDue := none } }) ∧
    ((∃ r ∈ s.origin.stationIn, r.source = .tableEngine) ∨ 0 ∈ s.origin.ownUpdates →
      exec .rejoinComplete s = .next s) ∧
    (s.loader.rejoin = some ⟨true, true⟩ → (∀ r ∈ s.origin.stationIn, r.source ≠ .tableEngine) →
      0 ∉ s.origin.ownUpdates →
      exec .rejoinComplete s = .next { s with
        loader := { s.loader with
          state := .listening, rejoin := none, listenEnd := some (s.now + (s.window + s.own % 16) * 100) }
        port := { s.port with service := .free, reports := s.port.reports ++ [.rejoinOk] } }) ∧
    ((∀ done, s.loader.rejoin ≠ some ⟨false, done⟩) → exec .transmitterRejoinPart s = .next s) ∧
    (s.loader.rejoin ≠ some ⟨true, true⟩ → exec .rejoinComplete s = .next s)

/-- The Table Engine's part of a REJOIN empties the peer part of the CFT, the roster and the receive queue, clears the three flags with their reports (in the model's order, log 9), discards a waiting page build, and recomputes the group table from own records: DOWN under an OPEN one, RETURNING with a full grace where it was DOWN under a CLEARED one, otherwise removed; each entry created or removed gives its signal, in ascending group order, and each one created, changed or removed its GROUP notice. The refused-insert, eviction, old and moot counts are kept, and of the waiting expiries, in their order, those whose deadline is still kept: a grace of an entry still RETURNING by it, none of a peer record (R14, R31, R46, R52, R54, R55, R129, R201). With no REJOIN in progress, or once it is done, the part changes nothing (R192; log 2). -/
def Obligations.RejoinRecomputesTheTables : Prop :=
  (∀ (d : Bool) (s : State) (group : HoldSignal → Nat), s.loader.rejoin = some ⟨d, false⟩ →
    group = (fun x => match x with
      | .begun g => g
      | .ended g => g) →
    ∃ (t : State) (notices : List Notice), exec .tableEngineRejoinPart s = .next t ∧
      t = { s with
        loader := { s.loader with rejoin := some ⟨d, true⟩ }
        table := t.table, roster := { entries := [], events := [] }, rx := { s.rx with queue := [] }
        origin := { s.origin with stationIn := t.origin.stationIn, holdIn := t.origin.holdIn }
        port := t.port } ∧
      t.table = { s.table with
        cft := s.table.cft.filter (fun r => decide (r.key.origin = s.own))
        groups := t.table.groups, timers := t.table.timers
        tableFull := false, groupTableFull := false, groupClash := false } ∧
      t.origin.stationIn = s.origin.stationIn ++
        (if s.table.tableFull then [⟨.tableEngine, .tableFull, false⟩] else []) ++
        (if s.table.groupTableFull then [⟨.tableEngine, .groupTableFull, false⟩] else []) ++
        (if s.table.groupClash then [⟨.tableEngine, .groupClash, false⟩] else []) ∧
      t.port = DispatcherPort.gateAll
        { s.port with dump := match s.port.dump with
          | .building _ _ => .none
          | other => other } notices ∧
      (∃ (groups : List Nat) (ofGroup : Nat → List Notice),
        notices = groups.flatMap ofGroup ∧ groups.Pairwise (· < ·) ∧
        (∀ g, g ∈ groups ↔ findEntry s.table.groups g ≠ none ∨ findEntry t.table.groups g ≠ none) ∧
        (∀ g e, findEntry s.table.groups g = some e → findEntry t.table.groups g = none →
          ofGroup g = [{ report := .group g .up none (heldCount t.table.cft g), before := none }]) ∧
        (∀ g m, findEntry t.table.groups g = some ⟨g, .down m⟩ →
          ofGroup g = (if findEntry s.table.groups g = some ⟨g, .down m⟩ then []
            else [{ report := .group g .down (some m) (heldCount t.table.cft g), before := none }])) ∧
        (∀ g e, findEntry t.table.groups g = some ⟨g, .returning e⟩ →
          ((∃ e', findEntry s.table.groups g = some ⟨g, .returning e'⟩) → ofGroup g = []) ∧
          ((∀ e', findEntry s.table.groups g ≠ some ⟨g, .returning e'⟩) →
            ofGroup g = [{ report := .group g .returning none (heldCount t.table.cft g), before := none }]))) ∧
      (∃ signals : List HoldSignal, t.origin.holdIn = s.origin.holdIn ++ signals ∧
        (∀ g, .begun g ∈ signals ↔ findEntry s.table.groups g = none ∧ findEntry t.table.groups g ≠ none) ∧
        (∀ g, .ended g ∈ signals ↔ findEntry s.table.groups g ≠ none ∧ findEntry t.table.groups g = none) ∧
        signals.Pairwise (fun x y => group x < group y)) ∧
      (∃ kept : TimerClaim → Bool, t.table.timers = s.table.timers.filter kept ∧
        (∀ e g, kept (.grace e g) = true ↔ findEntry t.table.groups g = some ⟨g, .returning e⟩) ∧
        (∀ e k, k.origin ≠ s.own → kept (.linger e k) = false)) ∧
      ∀ g,
        ((∃ r ∈ t.table.cft, r.kind = .supply ∧ r.group = g ∧ r.state = .opened) →
          findEntry t.table.groups g = some ⟨g, .down s.own⟩) ∧
        ((∀ r ∈ t.table.cft, r.kind = .supply → r.group = g → r.state = .cleared) →
          (∃ r ∈ t.table.cft, r.kind = .supply ∧ r.group = g) →
          (∀ sup, findEntry s.table.groups g = some ⟨g, .down sup⟩ →
            findEntry t.table.groups g = some ⟨g, .returning (s.nowSec + s.returnGrace)⟩) ∧
          (∀ e, findEntry s.table.groups g = some ⟨g, .returning e⟩ →
            findEntry t.table.groups g = some ⟨g, .returning e⟩) ∧
          (findEntry s.table.groups g = none → findEntry t.table.groups g = none)) ∧
        ((∀ r ∈ t.table.cft, r.kind = .supply → r.group ≠ g) → findEntry t.table.groups g = none)) ∧
  (∀ s : State, (∀ d, s.loader.rejoin ≠ some ⟨d, false⟩) → exec .tableEngineRejoinPart s = .next s)

/-- The LISTENING timer's end enters IN-STEP: an urgent entry for slot 0, then the SUPPLY slots, then every other slot whose record is not deferred, ascending; the walk starts at 0 with its first step one interval away; and the transmitter waits for its access moment (R97, R102, R136, R198). Outside LISTENING, before the timer's end, or with the timer stopped, the command changes nothing (R192; log 2). -/
def Obligations.ListeningEndsInStep : Prop :=
  (∀ (e : Nat) (s : State) (slots : List Nat) (deferred : Nat → Bool), s.loader.state = .listening →
    s.loader.listenEnd = some e → e ≤ s.now → s.tx.state = .idle →
    deferred = (fun k => decide (∃ r ∈ (s.origin.slot k).record,
      (r.kind = .lamp ∨ r.kind = .loop ∨ r.kind = .sign) ∧ r.group ≠ 0 ∧ r.group ∈ s.origin.held)) →
    slots = ((List.range 64).map (· + 1)).filter (fun k => decide ((s.origin.slot k).record ≠ none)) →
    exec .listeningTimerEnd s = .next { s with
      loader := { s.loader with state := .inStep, listenEnd := none }
      tx := { s.tx with state := .waiting }
      origin := { s.origin with
        changeQueue := 0 :: (slots.filter (fun k => decide ((s.pointConfig k).kind = some .supply)) ++
          slots.filter (fun k => decide ((s.pointConfig k).kind ≠ some .supply) && !deferred k))
        pointer := 0, stepDue := some (s.now + s.window * 100 / 65) } }) ∧
  (∀ s : State, s.loader.state ≠ .listening ∨ (∀ e, s.loader.listenEnd = some e → s.now < e) →
    exec .listeningTimerEnd s = .next s)

/-- The report at the head is sent a character at a time, one at each READY_ASSERTED, kept in the model's own field lastOut (log 13); when its last is out it leaves, its dump's idle time starts at the delivery of the latest page, a waiting DUMP-END and a pending RESYNC are posted as room allows; and a dump idle for 60 s ends with DUMP-END(TIMED-OUT), which waits while the queue has no room beyond what the request in service keeps (R165, R170, R172, R180, log 18). Its characters are the start byte, its type code, its body's length, the body and a checksum that brings the sum of all but the start byte to 0, with each report's body, the record, roster and group items of 27, 15 and 10 bytes, STATUS-REPLY's of 77, and the codes as R209 and R213 lay them out. With no report, with none left to send or not all sent, or before the idle deadline, the command changes nothing (log 2). -/
def Obligations.ReportsAreSentAndDelivered : Prop :=
  (∀ (r : Report) (rest : List Report) (s : State),
    (∀ c, s.port.reports = r :: rest → r.chars[s.port.sent]? = some c → exec .readyAsserted s =
      .next { s with port := { s.port with sent := s.port.sent + 1, lastOut := some c } }) ∧
    (∀ afterEnd resyncs, s.port.reports = r :: rest → s.port.sent = r.chars.length →
      afterEnd = (if s.port.dumpEndWaiting then rest ++ [.dumpEnd .timedOut] else rest) →
      resyncs = (s.port.resync && decide (afterEnd.length < s.port.limit)) →
      exec .reportDelivered s = .next { s with port := { s.port with
        sent := 0
        reports := if resyncs then afterEnd ++ [.resync] else afterEnd
        dumpEndWaiting := false
        resync := s.port.resync && !resyncs
        dump :=
          match s.port.dump with
          | .opened src cur idle => .opened src cur
            (if r.isPage = true ∧ ∀ x ∈ rest, x.isPage = false then some (s.now + 6000) else idle)
          | other => other } }) ∧
    (∀ src cur e, s.port.dump = .opened src cur (some e) → e ≤ s.now →
      (s.port.reports.length + s.port.keptPlaces < 64 → exec .dumpIdleTimeout s = .next { s with port :=
        { s.port with reports := s.port.reports ++ [.dumpEnd .timedOut], dump := .none } }) ∧
      (64 ≤ s.port.reports.length + s.port.keptPlaces → exec .dumpIdleTimeout s =
        .next { s with port := { s.port with dump := .none, dumpEndWaiting := true } })) ∧
    (s.port.reports = [] → exec .readyAsserted s = .next s ∧ exec .reportDelivered s = .next s) ∧
    (s.port.reports = r :: rest →
      (r.chars.length ≤ s.port.sent → exec .readyAsserted s = .next s) ∧
      (s.port.sent ≠ r.chars.length → exec .reportDelivered s = .next s)) ∧
    ((∀ src cur e, s.port.dump = .opened src cur (some e) → s.now < e) → exec .dumpIdleTimeout s = .next s) ∧
    (r.isPage = true ↔ ∃ items, r = .page items) ∧
    s.port.keptPlaces = (match s.port.service with
      | .free => 0
      | .pageBuild => 2
      | .ownAck _ _ _ => 1
      | .rejoin => 1)) ∧
  (∀ (two four : Nat → List Byte) (byte : Nat → Byte) (item : RecordItem → List Byte)
      (station : RosterEntry → List Byte) (group : GroupItem → List Byte) (framed : Report → Byte → List Byte → Prop),
      byte = BitVec.ofNat 8 → two = (fun n => [byte (n / 256), byte n]) →
      four = (fun n => two (n / 65536) ++ two n) →
      item = (fun i =>
        [byte i.record.key.origin, byte i.record.key.point, byte i.record.kind.code,
         byte (if i.record.kind = .station then
             (if .numberClash ∈ i.record.conds then 1 else 0) + (if .groupClash ∈ i.record.conds then 2 else 0) +
             (if .tableFull ∈ i.record.conds then 4 else 0) + (if .lineMute ∈ i.record.conds then 8 else 0) +
             (if .groupTableFull ∈ i.record.conds then 16 else 0)
           else (i.record.conds.headD .lampOut).code),
         byte ((if i.record.state = .cleared then 1 else 0) + (if i.record.flapping then 2 else 0) +
           (match i.view with
             | .active => 0
             | .held => 4
             | .cleared => 8) +
           (if i.record.freshness = .stale then 16 else 0) + (if i.record.lastHeard = none then 0 else 32) +
           (if i.record.clearedAt = none then 0 else 64)),
         byte i.record.severity, i.record.version] ++
        two i.record.group ++ two (i.record.parent.getD 0) ++ two (i.holding.getD 0) ++ four i.record.raisedAt ++
        [byte i.record.occurrences, byte (i.record.ackMark.getD 0)] ++ four (i.record.lastHeard.getD 0) ++
        four (i.record.clearedAt.getD 0)) →
      station = (fun e =>
        [byte e.station, if e.state = .present then 1 else 2, if e.tag = none then 0 else 1] ++
        two (e.tag.getD 0).toNat ++ four e.lastHeard ++ two e.window ++ four e.framesHeard.toNat) →
      group = (fun i => match i.entry.state with
        | .down supervisor => two i.entry.group ++ [1, byte supervisor] ++ four 0 ++ two i.heldCount
        | .returning deadline => two i.entry.group ++ [2, 0] ++ four deadline ++ two i.heldCount) →
      framed = (fun r type body => ∃ sum : Byte, r.chars = 0xF0 :: type :: byte body.length :: (body ++ [sum]) ∧
        type + byte body.length + body.foldr (· + ·) 0 + sum = 0) →
      (∀ i, (item i).length = 27) ∧ (∀ e, (station e).length = 15) ∧ (∀ i, (group i).length = 10) ∧
      (∀ b : StatusBody, ∃ body, framed (.statusReply b) 0x81 body ∧ (b.counters.length = 16 → body.length = 77) ∧
        body = [byte b.state.code, byte b.station,
            byte ((if b.runTag = none then 0 else 1) + (if b.tableFull then 2 else 0) +
              (if b.groupTableFull then 4 else 0) + (if b.groupClash then 8 else 0))] ++
          two (b.runTag.getD 0).toNat ++ [byte b.error.code, byte b.ownRecords] ++ two b.peerRecords ++
          [byte b.groupEntries, byte b.presentPeers, byte b.silentPeers, byte b.failures] ++
          b.counters.flatMap (fun c => four c.toNat)) ∧
      framed .viewOk 0x82 [] ∧
      (∀ l, framed (.page (.table l)) 0x83 ([1, byte l.length] ++ l.flatMap item)) ∧
      (∀ l, framed (.page (.roster l)) 0x83 ([2, byte l.length] ++ l.flatMap station)) ∧
      (∀ l, framed (.page (.groups l)) 0x83 ([3, byte l.length] ++ l.flatMap group)) ∧
      (∀ reason, framed (.dumpEnd reason) 0x84 [byte reason.code]) ∧
      (∀ o p out, framed (.ackReply o p out) 0x85 [byte o, byte p, if out = .accepted then 1 else 2]) ∧
      framed .rejoinOk 0x86 [] ∧
      (∀ type reason o p, framed (.refused type reason o p) 0x87 [type, byte reason.code, byte o, byte p]) ∧
      (∀ i, framed (.recordChanged i) 0xC1 (item i)) ∧
      (∀ i cause, framed (.recordRemoved i cause) 0xC2 (item i ++ [byte cause.code])) ∧
      (∀ g st sup held, framed (.group g st sup held) 0xC3
        (two g ++ [byte st.code, byte (sup.getD 0)] ++ two held)) ∧
      (∀ n heard records, framed (.stationSilent n heard records) 0xC4 ([byte n] ++ four heard ++ two records)) ∧
      (∀ n records, framed (.stationBack n records) 0xC5 ([byte n] ++ two records)) ∧
      (∀ o p seen, framed (.ackUnsent o p seen) 0xC6 [byte o, byte p, seen]) ∧
      framed .resync 0xC7 [] ∧
      [Kind.lamp, .loop, .sign, .supply, .station].map Kind.code = [1, 2, 3, 4, 5] ∧
      [Condition.lampOut, .lampCycling, .lampDayburn, .loopOpen, .loopOutOfRange, .loopStuck, .loopChatter, .loopDrift,
        .signNoHeartbeat, .signPower, .signDisplayMismatch, .signModule, .signOther, .supplyLoss, .numberClash,
        .groupClash, .tableFull, .lineMute, .groupTableFull].map Condition.code = List.range' 1 19 ∧
      [StationState.loading, .halted, .listening, .inStep, .mute].map StationState.code = [0, 1, 2, 3, 4] ∧
      [ProfileError.none, .format, .length, .crc, .stationNumber, .range, .supplyNoGroup, .supplyOwnParent,
        .supplyDuplicate].map ProfileError.code = List.range 9 ∧
      [RefusalReason.malformed, .notReady, .busy, .noDump, .noRecord, .notOpen, .changed, .already,
        .originSilent].map RefusalReason.code = List.range' 1 9 ∧
      [DumpEndReason.complete, .stopped, .timedOut, .filterChanged, .rejoin].map DumpEndReason.code = List.range' 1 5 ∧
      [DeleteCause.linger, .sweep, .wipe, .eviction].map DeleteCause.code = [1, 2, 3, 4] ∧
      [GroupNoticeState.up, .down, .returning].map GroupNoticeState.code = [0, 1, 2])

/-- A notice passes the gate while watch is on and the filter wants it: it joins the report queue below the notice limit, and is dropped, counted and marked for RESYNC at or above it; a record passes by severity, kind, view state and freshness, and a RECORD-CHANGED also by what stood at the claim's start, judged with the kind the record has at the close, which is the model's choice (log 24); every GROUP, STATION-SILENT, STATION-BACK and ACK-UNSENT is wanted (R171, R172, R174). -/
def Obligations.NoticesPassTheGate : Prop :=
  ∀ (p : DispatcherPort) (n : Notice) (i : RecordItem) (f : ViewFilter),
    (f.passesItem i = true ↔ f.minSeverity ≤ i.record.severity ∧ i.record.kind ∈ f.kinds ∧
      (i.view = .held → f.includeHeld = true) ∧ (i.view = .cleared → f.includeCleared = true) ∧
      (i.record.freshness = .stale → f.includeStale = true)) ∧
    (∀ before, f.wants ⟨.recordChanged i, before⟩ = true ↔ f.passesItem i = true ∨
      ∃ b, before = some b ∧ f.minSeverity ≤ b.severity ∧ i.record.kind ∈ f.kinds ∧
        (b.view = .held → f.includeHeld = true) ∧ (b.view = .cleared → f.includeCleared = true) ∧
        (b.freshness = .stale → f.includeStale = true)) ∧
    (∀ cause before, f.wants ⟨.recordRemoved i cause, before⟩ = f.passesItem i) ∧
    (∀ before g st sup held, f.wants ⟨.group g st sup held, before⟩ = true) ∧
    (∀ before m heard records, f.wants ⟨.stationSilent m heard records, before⟩ = true) ∧
    (∀ before m records, f.wants ⟨.stationBack m records, before⟩ = true) ∧
    (∀ before o pt seen, f.wants ⟨.ackUnsent o pt seen, before⟩ = true) ∧
    (p.watch = false ∨ p.filter.wants n = false → p.gate n = p) ∧
    (p.watch = true → p.filter.wants n = true →
      (p.reports.length < p.limit → p.gate n = { p with reports := p.reports ++ [n.report] }) ∧
      (p.limit ≤ p.reports.length → p.gate n = { p with dropped := p.dropped + 1, resync := true }))

/-! ### What every step keeps -/

/-- The state after reset satisfies everything that every step keeps. -/
def Obligations.ResetIsSafe : Prop := Safe State.reset

/-- Every step keeps the loader's state, the transmitter's rest outside IN-STEP and the stillness of a REJOIN (R136, R192, R195, R199, R200). -/
def Obligations.StepsKeepLoaderAndQuiet : Prop :=
  ∀ s t : State, Safe s → step s = .next t → LoaderSafe t ∧ QuietSafe t

/-- Every step keeps the bounds of the request and report queues, with the places the request in service needs (R167, R168, R171). -/
def Obligations.StepsKeepThePortBounds : Prop := ∀ s t : State, PortSafe s → step s = .next t → PortSafe t

/-- Every step keeps the 65 slots sound and the change queue free of repeats, with urgent entries ahead of ordinary ones (R1, R82, R83, R93, R95). -/
def Obligations.StepsKeepTheSlotsAndTheChangeQueue : Prop :=
  ∀ s t : State, Safe s → step s = .next t → OriginSafe t

/-- Every step keeps the CFT in key order with sound records and at most 959 peer records, and the group table in order with at most 128 entries (R2, R32). -/
def Obligations.StepsKeepTheTables : Prop := ∀ s t : State, Safe s → step s = .next t → TableSafe t

/-- Every step keeps each group entry DOWN exactly while its group has an OPEN supervising record, under the lowest origin, and no group lacks its entry while GROUP-TABLE-FULL is not set (R34, R37). -/
def Obligations.StepsKeepGroupsMatchingRecords : Prop := ∀ s t : State, Safe s → step s = .next t → GroupsMatch t

/-- Every step keeps the roster in order and without this station, the receive queue at 32 or fewer, the failure counts in range and the tick count below 100 (R56, R107, R111, R114, R146, R147). -/
def Obligations.StepsKeepRosterLineAndTime : Prop :=
  ∀ s t : State, Safe s → step s = .next t → RosterSafe t ∧ LineSafe t ∧ TimeSafe t

/-! ### What is sent is what is read (chapter 10) -/

/-- The characters of a frame this station sends are judged a valid frame of its sender, kind and body (R132, R134, R141, R204, R205). -/
def Obligations.FramesReadBack : Prop :=
  ∀ (n : Nat) (k : FrameKind) (body : List Byte), stationOk n = true → k.lengthOk body.length = true →
    judgeRun false (frameChars n k body) = .valid { sender := n, kind := k, body := body }

/-- The body of a RECORD built from a sound point record, and of an ACKNOWLEDGE, passes the content check and reads back every field (R99, R116, R206, R207). A body of either kind passes exactly where every field lies in its range, with undefined flag bits ignored, and is read field by field, an age above 1,048,575 as 1,048,575 and the ack station of a CLEARED announcement as no mark (R116, R203, R206 to R208). A body is built at its kind's length with every undefined flag bit 0 (R203, R205). -/
def Obligations.RecordAndAcknowledgeBodiesReadBack : Prop :=
  (∀ (tag : Word16) (r : Record) (c : Condition) (refresh : Bool) (age : Nat),
    pointOk r.key.point = true → r.kind ≠ .station → r.conds = [c] → c.kind = r.kind → r.group ≤ 511 →
    (r.kind = .supply → 1 ≤ r.group) → (∀ g, r.parent = some g → r.kind = .supply ∧ 1 ≤ g ∧ g ≤ 511) →
    1 ≤ r.occurrences → r.occurrences ≤ 255 →
    (∀ n, r.ackMark = some n → r.state = .opened ∧ stationOk n = true) → age ≤ 1048575 →
    readRecord (writeRecord tag r refresh age) = some
      { tag := tag, refresh := refresh
        ann :=
          { point := r.key.point, kind := r.kind, conds := r.conds, state := r.state, flapping := r.flapping
            group := r.group, parent := r.parent, version := r.version, age := age
            occurrences := some r.occurrences, ack := r.ackMark } }) ∧
  (∀ a : AckEntry, stationOk a.origin = true → slotOk a.point = true →
    readAcknowledge (writeAcknowledge a) =
      some { tag := a.tag, origin := a.origin, point := a.point, seen := a.seen }) ∧
  (∀ (b : List Byte) (word : Nat → Nat) (passes : Prop),
    word = (fun i => byteAt b i * 256 + byteAt b (i + 1)) →
    passes = ((1 ≤ byteAt b 2 ∧ byteAt b 2 ≤ 64) ∧
      (byteAt b 3 = 1 ∧ 1 ≤ byteAt b 4 ∧ byteAt b 4 ≤ 3 ∨ byteAt b 3 = 2 ∧ 4 ≤ byteAt b 4 ∧ byteAt b 4 ≤ 8 ∨
        byteAt b 3 = 3 ∧ 9 ≤ byteAt b 4 ∧ byteAt b 4 ≤ 13 ∨ byteAt b 3 = 4 ∧ byteAt b 4 = 14) ∧
      word 7 ≤ 511 ∧ (byteAt b 3 = 4 → 1 ≤ word 7) ∧ (word 9 ≠ 0 → byteAt b 3 = 4 ∧ word 9 ≤ 511) ∧
      1 ≤ byteAt b 14 ∧ byteAt b 15 ≤ 250) →
    (¬passes → readRecord b = none) ∧
    (passes → ∃ (f : RecordBody) (c : Condition), readRecord b = some f ∧ f.tag.toNat = word 0 ∧
      (f.refresh = true ↔ bitAt b 5 2 = true) ∧ f.ann.point = byteAt b 2 ∧ f.ann.kind.code = byteAt b 3 ∧
      f.ann.conds = [c] ∧ c.code = byteAt b 4 ∧ (f.ann.state = .cleared ↔ bitAt b 5 0 = true) ∧
      (f.ann.flapping = true ↔ bitAt b 5 1 = true) ∧ f.ann.version.toNat = byteAt b 6 ∧ f.ann.group = word 7 ∧
      f.ann.parent = (if word 9 = 0 then none else some (word 9)) ∧
      f.ann.age = min (byteAt b 11 * 65536 + word 12) 1048575 ∧ f.ann.occurrences = some (byteAt b 14) ∧
      f.ann.ack = (if byteAt b 15 = 0 ∨ f.ann.state = .cleared then none else some (byteAt b 15)))) ∧
  (∀ b : List Byte,
    (¬((1 ≤ byteAt b 2 ∧ byteAt b 2 ≤ 250) ∧ byteAt b 3 ≤ 64) → readAcknowledge b = none) ∧
    ((1 ≤ byteAt b 2 ∧ byteAt b 2 ≤ 250) ∧ byteAt b 3 ≤ 64 → ∃ a, readAcknowledge b = some a ∧
      a.tag.toNat = byteAt b 0 * 256 + byteAt b 1 ∧ a.origin = byteAt b 2 ∧ a.point = byteAt b 3 ∧
      a.seen.toNat = byteAt b 4)) ∧
  (∀ (tag : Word16) (r : Record) (refresh : Bool) (age : Nat) (a : AckEntry),
    (writeRecord tag r refresh age).length = 16 ∧ byteAt (writeRecord tag r refresh age) 5 < 8 ∧
    (writeAcknowledge a).length = 5)

/-- The body of a ROLL reads back its window, its open set of points 1 to 64 and its station part (R100, R116, R206, R208). A body of an allowed length passes exactly where the window is 60 to 600 and a station part carries 1 to 5 station condition codes, none twice, and an ack station of at most 250, and is read field by field, the list in ascending code order whatever order it came in, an age above 1,048,575 as 1,048,575 and the ack station of a CLEARED part as no mark (R116, R205 to R208). -/
def Obligations.RollBodiesReadBack : Prop :=
  (∀ (tag : Word16) (window : Nat) (set : List Nat), 60 ≤ window → window ≤ 600 →
    readRoll (writeRoll tag window set none) = some
      { tag := tag, window := window, part := none
        openSet := ((List.range 64).map (· + 1)).filter (fun p => decide (p ∈ set)) } ∧
    ∀ (r : Record) (age : Nat), r.conds ≠ [] → (∀ c ∈ r.conds, c.kind = .station) →
      r.conds.Pairwise (fun a b => a.code < b.code) →
      (∀ n, r.ackMark = some n → r.state = .opened ∧ stationOk n = true) → age ≤ 1048575 →
      readRoll (writeRoll tag window set (some (r, age))) = some
        { tag := tag, window := window
          openSet := ((List.range 64).map (· + 1)).filter (fun p => decide (p ∈ set))
          part := some
            { point := 0, kind := .station, conds := r.conds, state := r.state, flapping := false, group := 0
              parent := none, version := r.version, age := age, occurrences := none, ack := r.ackMark } }) ∧
  (∀ (b : List Byte) (word : Nat → Nat) (list : List Nat) (windowOk partOk : Prop),
    b.length = 12 ∨ 19 ≤ b.length ∧ b.length ≤ 23 → word = (fun i => byteAt b i * 256 + byteAt b (i + 1)) →
    list = (b.drop 18).map BitVec.toNat → windowOk = (60 ≤ word 2 ∧ word 2 ≤ 600) →
    partOk = (list.Nodup ∧ (∀ x ∈ list, 15 ≤ x ∧ x ≤ 19) ∧ byteAt b 17 ≤ 250) →
    (¬windowOk ∨ 12 < b.length ∧ ¬partOk → readRoll b = none) ∧
    (windowOk → b.length = 12 ∨ partOk → ∃ f, readRoll b = some f ∧ f.tag.toNat = word 0 ∧ f.window = word 2 ∧
      f.openSet = ((List.range 64).map (· + 1)).filter (fun p => bitAt b (4 + (p - 1) / 8) ((p - 1) % 8)) ∧
      (b.length = 12 → f.part = none) ∧
      (12 < b.length → ∃ a, f.part = some a ∧ a.point = 0 ∧ a.kind = .station ∧ a.flapping = false ∧ a.group = 0 ∧
        a.parent = none ∧ a.occurrences = none ∧ a.version.toNat = byteAt b 12 ∧
        (a.state = .cleared ↔ bitAt b 13 0 = true) ∧ a.age = min (byteAt b 14 * 65536 + word 15) 1048575 ∧
        a.ack = (if byteAt b 17 = 0 ∨ a.state = .cleared then none else some (byteAt b 17)) ∧
        a.conds.Pairwise (fun x y => x.code < y.code) ∧ ∀ x, x ∈ a.conds.map Condition.code ↔ x ∈ list))) ∧
  (∀ (tag : Word16) (window : Nat) (set : List Nat) (r : Record) (age : Nat),
    (writeRoll tag window set none).length = 12 ∧
    (writeRoll tag window set (some (r, age))).length = 18 + r.conds.length ∧
    byteAt (writeRoll tag window set (some (r, age))) 13 < 2)
end

