-- ==== Sys2Proof/Laws/State.lean ====
section
/-!
SUPPORT. One lemma per field per update: what each shared operation that is a plain record update leaves in every field. All hold by definition.
-/
namespace Sys2Proof.Machine

/-! ### State.passTick -/

@[simp] theorem State.passTick_pending (s : State) : (s.passTick).pending = s.pending := rfl
@[simp] theorem State.passTick_freeIx (s : State) : (s.passTick).freeIx = s.freeIx := rfl
@[simp] theorem State.passTick_time (s : State) : (s.passTick).time = s.time.advance := rfl
@[simp] theorem State.passTick_loader (s : State) : (s.passTick).loader = s.loader := rfl
@[simp] theorem State.passTick_field (s : State) : (s.passTick).field = s.field := rfl
@[simp] theorem State.passTick_origin (s : State) : (s.passTick).origin = s.origin := rfl
@[simp] theorem State.passTick_table (s : State) : (s.passTick).table = s.table := rfl
@[simp] theorem State.passTick_roster (s : State) : (s.passTick).roster = s.roster := rfl
@[simp] theorem State.passTick_rx (s : State) : (s.passTick).rx = s.rx := rfl
@[simp] theorem State.passTick_tx (s : State) : (s.passTick).tx = s.tx := rfl
@[simp] theorem State.passTick_port (s : State) : (s.passTick).port = s.port := rfl

/-! ### State.putSlot -/

@[simp] theorem State.putSlot_pending (s : State) (k : Nat) (sl : OwnSlot) : (s.putSlot k sl).pending = s.pending := rfl
@[simp] theorem State.putSlot_freeIx (s : State) (k : Nat) (sl : OwnSlot) : (s.putSlot k sl).freeIx = s.freeIx := rfl
@[simp] theorem State.putSlot_time (s : State) (k : Nat) (sl : OwnSlot) : (s.putSlot k sl).time = s.time := rfl
@[simp] theorem State.putSlot_loader (s : State) (k : Nat) (sl : OwnSlot) : (s.putSlot k sl).loader = s.loader := rfl
@[simp] theorem State.putSlot_field (s : State) (k : Nat) (sl : OwnSlot) : (s.putSlot k sl).field = s.field := rfl
@[simp] theorem State.putSlot_origin (s : State) (k : Nat) (sl : OwnSlot) : (s.putSlot k sl).origin = s.origin.setSlot k sl := rfl
@[simp] theorem State.putSlot_table (s : State) (k : Nat) (sl : OwnSlot) : (s.putSlot k sl).table = s.table := rfl
@[simp] theorem State.putSlot_roster (s : State) (k : Nat) (sl : OwnSlot) : (s.putSlot k sl).roster = s.roster := rfl
@[simp] theorem State.putSlot_rx (s : State) (k : Nat) (sl : OwnSlot) : (s.putSlot k sl).rx = s.rx := rfl
@[simp] theorem State.putSlot_tx (s : State) (k : Nat) (sl : OwnSlot) : (s.putSlot k sl).tx = s.tx := rfl
@[simp] theorem State.putSlot_port (s : State) (k : Nat) (sl : OwnSlot) : (s.putSlot k sl).port = s.port := rfl

/-! ### State.monitorEvent -/

@[simp] theorem State.monitorEvent_pending (s : State) (p : Nat) (m : Monitor) (before after : List Condition) : (s.monitorEvent p m before after).pending = s.pending := rfl
@[simp] theorem State.monitorEvent_freeIx (s : State) (p : Nat) (m : Monitor) (before after : List Condition) : (s.monitorEvent p m before after).freeIx = s.freeIx := rfl
@[simp] theorem State.monitorEvent_time (s : State) (p : Nat) (m : Monitor) (before after : List Condition) : (s.monitorEvent p m before after).time = s.time := rfl
@[simp] theorem State.monitorEvent_loader (s : State) (p : Nat) (m : Monitor) (before after : List Condition) : (s.monitorEvent p m before after).loader = s.loader := rfl
@[simp] theorem State.monitorEvent_field (s : State) (p : Nat) (m : Monitor) (before after : List Condition) : (s.monitorEvent p m before after).field = s.field.setMonitor p m := rfl
@[simp] theorem State.monitorEvent_origin (s : State) (p : Nat) (m : Monitor) (before after : List Condition) : (s.monitorEvent p m before after).origin = s.origin.handReports (reportsOf p before after) := rfl
@[simp] theorem State.monitorEvent_table (s : State) (p : Nat) (m : Monitor) (before after : List Condition) : (s.monitorEvent p m before after).table = s.table := rfl
@[simp] theorem State.monitorEvent_roster (s : State) (p : Nat) (m : Monitor) (before after : List Condition) : (s.monitorEvent p m before after).roster = s.roster := rfl
@[simp] theorem State.monitorEvent_rx (s : State) (p : Nat) (m : Monitor) (before after : List Condition) : (s.monitorEvent p m before after).rx = s.rx := rfl
@[simp] theorem State.monitorEvent_tx (s : State) (p : Nat) (m : Monitor) (before after : List Condition) : (s.monitorEvent p m before after).tx = s.tx := rfl
@[simp] theorem State.monitorEvent_port (s : State) (p : Nat) (m : Monitor) (before after : List Condition) : (s.monitorEvent p m before after).port = s.port := rfl

/-! ### State.readDusk -/

@[simp] theorem State.readDusk_pending (s : State) : (s.readDusk).pending = s.pending := rfl
@[simp] theorem State.readDusk_freeIx (s : State) : (s.readDusk).freeIx = s.freeIx := rfl
@[simp] theorem State.readDusk_time (s : State) : (s.readDusk).time = s.time := rfl
@[simp] theorem State.readDusk_loader (s : State) : (s.readDusk).loader = s.loader := rfl
@[simp] theorem State.readDusk_field (s : State) : (s.readDusk).field = { s.field with duskSampledAt := s.now } := rfl
@[simp] theorem State.readDusk_origin (s : State) : (s.readDusk).origin = s.origin := rfl
@[simp] theorem State.readDusk_table (s : State) : (s.readDusk).table = s.table := rfl
@[simp] theorem State.readDusk_roster (s : State) : (s.readDusk).roster = s.roster := rfl
@[simp] theorem State.readDusk_rx (s : State) : (s.readDusk).rx = s.rx := rfl
@[simp] theorem State.readDusk_tx (s : State) : (s.readDusk).tx = s.tx := rfl
@[simp] theorem State.readDusk_port (s : State) : (s.readDusk).port = s.port := rfl

/-! ### State.passLine -/

@[simp] theorem State.passLine_pending (s : State) (dt : Nat) : (s.passLine dt).pending = s.pending := rfl
@[simp] theorem State.passLine_freeIx (s : State) (dt : Nat) : (s.passLine dt).freeIx = s.freeIx := rfl
@[simp] theorem State.passLine_time (s : State) (dt : Nat) : (s.passLine dt).time = s.time := rfl
@[simp] theorem State.passLine_loader (s : State) (dt : Nat) : (s.passLine dt).loader = s.loader := rfl
@[simp] theorem State.passLine_field (s : State) (dt : Nat) : (s.passLine dt).field = s.field := rfl
@[simp] theorem State.passLine_origin (s : State) (dt : Nat) : (s.passLine dt).origin = s.origin := rfl
@[simp] theorem State.passLine_table (s : State) (dt : Nat) : (s.passLine dt).table = s.table := rfl
@[simp] theorem State.passLine_roster (s : State) (dt : Nat) : (s.passLine dt).roster = s.roster := rfl
@[simp] theorem State.passLine_rx (s : State) (dt : Nat) : (s.passLine dt).rx = { s.rx with clock := s.rx.clock + dt } := rfl
@[simp] theorem State.passLine_tx (s : State) (dt : Nat) : (s.passLine dt).tx = s.tx := rfl
@[simp] theorem State.passLine_port (s : State) (dt : Nat) : (s.passLine dt).port = s.port := rfl

/-! ### State.takeFrame -/

@[simp] theorem State.takeFrame_pending (s : State) : (s.takeFrame).pending = s.pending := rfl
@[simp] theorem State.takeFrame_freeIx (s : State) : (s.takeFrame).freeIx = s.freeIx := rfl
@[simp] theorem State.takeFrame_time (s : State) : (s.takeFrame).time = s.time := rfl
@[simp] theorem State.takeFrame_loader (s : State) : (s.takeFrame).loader = s.loader := rfl
@[simp] theorem State.takeFrame_field (s : State) : (s.takeFrame).field = s.field := rfl
@[simp] theorem State.takeFrame_origin (s : State) : (s.takeFrame).origin = s.origin := rfl
@[simp] theorem State.takeFrame_table (s : State) : (s.takeFrame).table = s.table := rfl
@[simp] theorem State.takeFrame_roster (s : State) : (s.takeFrame).roster = s.roster := rfl
@[simp] theorem State.takeFrame_rx (s : State) : (s.takeFrame).rx = { s.rx with queue := s.rx.queue.drop 1 } := rfl
@[simp] theorem State.takeFrame_tx (s : State) : (s.takeFrame).tx = s.tx := rfl
@[simp] theorem State.takeFrame_port (s : State) : (s.takeFrame).port = s.port := rfl

/-! ### State.takeRequest -/

@[simp] theorem State.takeRequest_pending (s : State) : (s.takeRequest).pending = s.pending := rfl
@[simp] theorem State.takeRequest_freeIx (s : State) : (s.takeRequest).freeIx = s.freeIx := rfl
@[simp] theorem State.takeRequest_time (s : State) : (s.takeRequest).time = s.time := rfl
@[simp] theorem State.takeRequest_loader (s : State) : (s.takeRequest).loader = s.loader := rfl
@[simp] theorem State.takeRequest_field (s : State) : (s.takeRequest).field = s.field := rfl
@[simp] theorem State.takeRequest_origin (s : State) : (s.takeRequest).origin = s.origin := rfl
@[simp] theorem State.takeRequest_table (s : State) : (s.takeRequest).table = s.table := rfl
@[simp] theorem State.takeRequest_roster (s : State) : (s.takeRequest).roster = s.roster := rfl
@[simp] theorem State.takeRequest_rx (s : State) : (s.takeRequest).rx = s.rx := rfl
@[simp] theorem State.takeRequest_tx (s : State) : (s.takeRequest).tx = s.tx := rfl
@[simp] theorem State.takeRequest_port (s : State) : (s.takeRequest).port = { s.port with requests := s.port.requests.drop 1 } := rfl

/-! ### State.reply -/

@[simp] theorem State.reply_pending (s : State) (r : Report) : (s.reply r).pending = s.pending := rfl
@[simp] theorem State.reply_freeIx (s : State) (r : Report) : (s.reply r).freeIx = s.freeIx := rfl
@[simp] theorem State.reply_time (s : State) (r : Report) : (s.reply r).time = s.time := rfl
@[simp] theorem State.reply_loader (s : State) (r : Report) : (s.reply r).loader = s.loader := rfl
@[simp] theorem State.reply_field (s : State) (r : Report) : (s.reply r).field = s.field := rfl
@[simp] theorem State.reply_origin (s : State) (r : Report) : (s.reply r).origin = s.origin := rfl
@[simp] theorem State.reply_table (s : State) (r : Report) : (s.reply r).table = s.table := rfl
@[simp] theorem State.reply_roster (s : State) (r : Report) : (s.reply r).roster = s.roster := rfl
@[simp] theorem State.reply_rx (s : State) (r : Report) : (s.reply r).rx = s.rx := rfl
@[simp] theorem State.reply_tx (s : State) (r : Report) : (s.reply r).tx = s.tx := rfl
@[simp] theorem State.reply_port (s : State) (r : Report) : (s.reply r).port = { s.port with requests := s.port.requests.drop 1, reports := s.port.reports ++ [r] } := rfl

/-! ### State.halt -/

@[simp] theorem State.halt_pending (s : State) (e : ProfileError) (n : Nat) : (s.halt e n).pending = s.pending := rfl
@[simp] theorem State.halt_freeIx (s : State) (e : ProfileError) (n : Nat) : (s.halt e n).freeIx = s.freeIx := rfl
@[simp] theorem State.halt_time (s : State) (e : ProfileError) (n : Nat) : (s.halt e n).time = s.time := rfl
@[simp] theorem State.halt_loader (s : State) (e : ProfileError) (n : Nat) : (s.halt e n).loader = { s.loader with state := .halted, error := e, number := n, reading := .done } := rfl
@[simp] theorem State.halt_field (s : State) (e : ProfileError) (n : Nat) : (s.halt e n).field = s.field := rfl
@[simp] theorem State.halt_origin (s : State) (e : ProfileError) (n : Nat) : (s.halt e n).origin = s.origin := rfl
@[simp] theorem State.halt_table (s : State) (e : ProfileError) (n : Nat) : (s.halt e n).table = s.table := rfl
@[simp] theorem State.halt_roster (s : State) (e : ProfileError) (n : Nat) : (s.halt e n).roster = s.roster := rfl
@[simp] theorem State.halt_rx (s : State) (e : ProfileError) (n : Nat) : (s.halt e n).rx = s.rx := rfl
@[simp] theorem State.halt_tx (s : State) (e : ProfileError) (n : Nat) : (s.halt e n).tx = s.tx := rfl
@[simp] theorem State.halt_port (s : State) (e : ProfileError) (n : Nat) : (s.halt e n).port = s.port := rfl

/-! ### State.moveTurn -/

@[simp] theorem State.moveTurn_pending (s : State) : (s.moveTurn).pending = s.pending := rfl
@[simp] theorem State.moveTurn_freeIx (s : State) : (s.moveTurn).freeIx = s.freeIx := rfl
@[simp] theorem State.moveTurn_time (s : State) : (s.moveTurn).time = s.time := rfl
@[simp] theorem State.moveTurn_loader (s : State) : (s.moveTurn).loader = s.loader := rfl
@[simp] theorem State.moveTurn_field (s : State) : (s.moveTurn).field = s.field := rfl
@[simp] theorem State.moveTurn_origin (s : State) : (s.moveTurn).origin = s.origin := rfl
@[simp] theorem State.moveTurn_table (s : State) : (s.moveTurn).table = s.table := rfl
@[simp] theorem State.moveTurn_roster (s : State) : (s.moveTurn).roster = s.roster := rfl
@[simp] theorem State.moveTurn_rx (s : State) : (s.moveTurn).rx = s.rx := rfl
@[simp] theorem State.moveTurn_tx (s : State) : (s.moveTurn).tx = { s.tx with turn := s.tx.turn + 1 } := rfl
@[simp] theorem State.moveTurn_port (s : State) : (s.moveTurn).port = s.port := rfl

/-! ### State.numberClash -/

@[simp] theorem State.numberClash_pending (s : State) : (s.numberClash).pending = s.pending := rfl
@[simp] theorem State.numberClash_freeIx (s : State) : (s.numberClash).freeIx = s.freeIx := rfl
@[simp] theorem State.numberClash_time (s : State) : (s.numberClash).time = s.time := rfl
@[simp] theorem State.numberClash_loader (s : State) : (s.numberClash).loader = s.loader := rfl
@[simp] theorem State.numberClash_field (s : State) : (s.numberClash).field = s.field := rfl
@[simp] theorem State.numberClash_origin (s : State) : (s.numberClash).origin = s.origin.handStation (lineReport .lineReceiver .numberClash true) := rfl
@[simp] theorem State.numberClash_table (s : State) : (s.numberClash).table = s.table := rfl
@[simp] theorem State.numberClash_roster (s : State) : (s.numberClash).roster = s.roster := rfl
@[simp] theorem State.numberClash_rx (s : State) : (s.numberClash).rx = { s.rx with clashEnd := some (s.now + s.window * Config.ticksPerSecond) } := rfl
@[simp] theorem State.numberClash_tx (s : State) : (s.numberClash).tx = s.tx := rfl
@[simp] theorem State.numberClash_port (s : State) : (s.numberClash).port = s.port := rfl

/-! ### State.startAttempt -/

@[simp] theorem State.startAttempt_pending (s : State) (c : CurrentSend) (f : List Byte × Carried) : (s.startAttempt c f).pending = s.pending := rfl
@[simp] theorem State.startAttempt_freeIx (s : State) (c : CurrentSend) (f : List Byte × Carried) : (s.startAttempt c f).freeIx = s.freeIx := rfl
@[simp] theorem State.startAttempt_time (s : State) (c : CurrentSend) (f : List Byte × Carried) : (s.startAttempt c f).time = s.time := rfl
@[simp] theorem State.startAttempt_loader (s : State) (c : CurrentSend) (f : List Byte × Carried) : (s.startAttempt c f).loader = s.loader := rfl
@[simp] theorem State.startAttempt_field (s : State) (c : CurrentSend) (f : List Byte × Carried) : (s.startAttempt c f).field = s.field := rfl
@[simp] theorem State.startAttempt_origin (s : State) (c : CurrentSend) (f : List Byte × Carried) : (s.startAttempt c f).origin = s.origin := rfl
@[simp] theorem State.startAttempt_table (s : State) (c : CurrentSend) (f : List Byte × Carried) : (s.startAttempt c f).table = s.table := rfl
@[simp] theorem State.startAttempt_roster (s : State) (c : CurrentSend) (f : List Byte × Carried) : (s.startAttempt c f).roster = s.roster := rfl
@[simp] theorem State.startAttempt_rx (s : State) (c : CurrentSend) (f : List Byte × Carried) : (s.startAttempt c f).rx = s.rx := rfl
@[simp] theorem State.startAttempt_tx (s : State) (c : CurrentSend) (f : List Byte × Carried) : (s.startAttempt c f).tx = { s.tx with current := some { c with backoff := 0 }, state := .sending { frame := f.1, start := s.rx.clock, carried := f.2, returned := 0 }, outEnd := none } := rfl
@[simp] theorem State.startAttempt_port (s : State) (c : CurrentSend) (f : List Byte × Carried) : (s.startAttempt c f).port = s.port := rfl

/-! ### State.handOn -/

@[simp] theorem State.handOn_pending (s : State) (c : Closed) (extra : List Notice) : (s.handOn c extra).pending = s.pending := rfl
@[simp] theorem State.handOn_freeIx (s : State) (c : Closed) (extra : List Notice) : (s.handOn c extra).freeIx = s.freeIx := rfl
@[simp] theorem State.handOn_time (s : State) (c : Closed) (extra : List Notice) : (s.handOn c extra).time = s.time := rfl
@[simp] theorem State.handOn_loader (s : State) (c : Closed) (extra : List Notice) : (s.handOn c extra).loader = s.loader := rfl
@[simp] theorem State.handOn_field (s : State) (c : Closed) (extra : List Notice) : (s.handOn c extra).field = s.field := rfl
@[simp] theorem State.handOn_origin (s : State) (c : Closed) (extra : List Notice) : (s.handOn c extra).origin = { s.origin with stationIn := s.origin.stationIn ++ c.reports, holdIn := s.origin.holdIn ++ c.signals } := rfl
@[simp] theorem State.handOn_table (s : State) (c : Closed) (extra : List Notice) : (s.handOn c extra).table = c.te := rfl
@[simp] theorem State.handOn_roster (s : State) (c : Closed) (extra : List Notice) : (s.handOn c extra).roster = s.roster := rfl
@[simp] theorem State.handOn_rx (s : State) (c : Closed) (extra : List Notice) : (s.handOn c extra).rx = s.rx := rfl
@[simp] theorem State.handOn_tx (s : State) (c : Closed) (extra : List Notice) : (s.handOn c extra).tx = s.tx := rfl
@[simp] theorem State.handOn_port (s : State) (c : Closed) (extra : List Notice) : (s.handOn c extra).port = s.port.gateAll (c.notices ++ extra) := rfl

/-! ### State.closeClaim -/

@[simp] theorem State.closeClaim_pending (s : State) (w : Work) (extra : List Notice) : (s.closeClaim w extra).pending = s.pending := rfl
@[simp] theorem State.closeClaim_freeIx (s : State) (w : Work) (extra : List Notice) : (s.closeClaim w extra).freeIx = s.freeIx := rfl
@[simp] theorem State.closeClaim_time (s : State) (w : Work) (extra : List Notice) : (s.closeClaim w extra).time = s.time := rfl
@[simp] theorem State.closeClaim_loader (s : State) (w : Work) (extra : List Notice) : (s.closeClaim w extra).loader = s.loader := rfl
@[simp] theorem State.closeClaim_field (s : State) (w : Work) (extra : List Notice) : (s.closeClaim w extra).field = s.field := rfl
@[simp] theorem State.closeClaim_origin (s : State) (w : Work) (extra : List Notice) : (s.closeClaim w extra).origin = { s.origin with stationIn := s.origin.stationIn ++ (w.close s).reports, holdIn := s.origin.holdIn ++ (w.close s).signals } := rfl
@[simp] theorem State.closeClaim_table (s : State) (w : Work) (extra : List Notice) : (s.closeClaim w extra).table = (w.close s).te := rfl
@[simp] theorem State.closeClaim_roster (s : State) (w : Work) (extra : List Notice) : (s.closeClaim w extra).roster = s.roster := rfl
@[simp] theorem State.closeClaim_rx (s : State) (w : Work) (extra : List Notice) : (s.closeClaim w extra).rx = s.rx := rfl
@[simp] theorem State.closeClaim_tx (s : State) (w : Work) (extra : List Notice) : (s.closeClaim w extra).tx = s.tx := rfl
@[simp] theorem State.closeClaim_port (s : State) (w : Work) (extra : List Notice) : (s.closeClaim w extra).port = s.port.gateAll ((w.close s).notices ++ extra) := rfl

/-! ### State.offerPage -/

@[simp] theorem State.offerPage_pending (s : State) (src : DumpSource) (cur : Cursor) : (s.offerPage src cur).pending = s.pending := rfl
@[simp] theorem State.offerPage_freeIx (s : State) (src : DumpSource) (cur : Cursor) : (s.offerPage src cur).freeIx = s.freeIx := rfl
@[simp] theorem State.offerPage_time (s : State) (src : DumpSource) (cur : Cursor) : (s.offerPage src cur).time = s.time := rfl
@[simp] theorem State.offerPage_loader (s : State) (src : DumpSource) (cur : Cursor) : (s.offerPage src cur).loader = s.loader := rfl
@[simp] theorem State.offerPage_field (s : State) (src : DumpSource) (cur : Cursor) : (s.offerPage src cur).field = s.field := rfl
@[simp] theorem State.offerPage_origin (s : State) (src : DumpSource) (cur : Cursor) : (s.offerPage src cur).origin = s.origin := rfl
@[simp] theorem State.offerPage_table (s : State) (src : DumpSource) (cur : Cursor) : (s.offerPage src cur).table = s.table := rfl
@[simp] theorem State.offerPage_roster (s : State) (src : DumpSource) (cur : Cursor) : (s.offerPage src cur).roster = s.roster := rfl
@[simp] theorem State.offerPage_rx (s : State) (src : DumpSource) (cur : Cursor) : (s.offerPage src cur).rx = s.rx := rfl
@[simp] theorem State.offerPage_tx (s : State) (src : DumpSource) (cur : Cursor) : (s.offerPage src cur).tx = s.tx := rfl
@[simp] theorem State.offerPage_port (s : State) (src : DumpSource) (cur : Cursor) : (s.offerPage src cur).port = { s.port with requests := s.port.requests.drop 1, dump := .building src cur, service := .pageBuild } := rfl

/-! ### State.loadCompletes -/

@[simp] theorem State.loadCompletes_pending (s : State) (f : Profile) (d : Bool) (l : BitVec 64) : (s.loadCompletes f d l).pending = s.pending := rfl
@[simp] theorem State.loadCompletes_freeIx (s : State) (f : Profile) (d : Bool) (l : BitVec 64) : (s.loadCompletes f d l).freeIx = s.freeIx + 1 := rfl
@[simp] theorem State.loadCompletes_time (s : State) (f : Profile) (d : Bool) (l : BitVec 64) : (s.loadCompletes f d l).time = s.time := rfl
@[simp] theorem State.loadCompletes_loader (s : State) (f : Profile) (d : Bool) (l : BitVec 64) : (s.loadCompletes f d l).loader = { s.loader with state := .listening, error := .none, profile := some f, number := f.station, reading := .done, listenEnd := some (s.now + listeningTicks f.window f.station) } := rfl
@[simp] theorem State.loadCompletes_field (s : State) (f : Profile) (d : Bool) (l : BitVec 64) : (s.loadCompletes f d l).field = s.field.begin f s.now d l := rfl
@[simp] theorem State.loadCompletes_origin (s : State) (f : Profile) (d : Bool) (l : BitVec 64) : (s.loadCompletes f d l).origin = { s.origin with runTag := some (Config.runTagCounter s.freeIx) } := rfl
@[simp] theorem State.loadCompletes_table (s : State) (f : Profile) (d : Bool) (l : BitVec 64) : (s.loadCompletes f d l).table = s.table := rfl
@[simp] theorem State.loadCompletes_roster (s : State) (f : Profile) (d : Bool) (l : BitVec 64) : (s.loadCompletes f d l).roster = s.roster := rfl
@[simp] theorem State.loadCompletes_rx (s : State) (f : Profile) (d : Bool) (l : BitVec 64) : (s.loadCompletes f d l).rx = { s.rx with lastHeard := s.rx.clock } := rfl
@[simp] theorem State.loadCompletes_tx (s : State) (f : Profile) (d : Bool) (l : BitVec 64) : (s.loadCompletes f d l).tx = s.tx := rfl
@[simp] theorem State.loadCompletes_port (s : State) (f : Profile) (d : Bool) (l : BitVec 64) : (s.loadCompletes f d l).port = s.port.takeProfile f := rfl

/-! ### OriginUnit.setSlot -/

@[simp] theorem OriginUnit.setSlot_slots (o : OriginUnit) (k : Nat) (sl : OwnSlot) : (o.setSlot k sl).slots = o.slots.set k sl := rfl
@[simp] theorem OriginUnit.setSlot_reportsIn (o : OriginUnit) (k : Nat) (sl : OwnSlot) : (o.setSlot k sl).reportsIn = o.reportsIn := rfl
@[simp] theorem OriginUnit.setSlot_stationIn (o : OriginUnit) (k : Nat) (sl : OwnSlot) : (o.setSlot k sl).stationIn = o.stationIn := rfl
@[simp] theorem OriginUnit.setSlot_holdIn (o : OriginUnit) (k : Nat) (sl : OwnSlot) : (o.setSlot k sl).holdIn = o.holdIn := rfl
@[simp] theorem OriginUnit.setSlot_acksIn (o : OriginUnit) (k : Nat) (sl : OwnSlot) : (o.setSlot k sl).acksIn = o.acksIn := rfl
@[simp] theorem OriginUnit.setSlot_changeQueue (o : OriginUnit) (k : Nat) (sl : OwnSlot) : (o.setSlot k sl).changeQueue = o.changeQueue := rfl
@[simp] theorem OriginUnit.setSlot_ownUpdates (o : OriginUnit) (k : Nat) (sl : OwnSlot) : (o.setSlot k sl).ownUpdates = o.ownUpdates := rfl
@[simp] theorem OriginUnit.setSlot_pointer (o : OriginUnit) (k : Nat) (sl : OwnSlot) : (o.setSlot k sl).pointer = o.pointer := rfl
@[simp] theorem OriginUnit.setSlot_stepDue (o : OriginUnit) (k : Nat) (sl : OwnSlot) : (o.setSlot k sl).stepDue = o.stepDue := rfl
@[simp] theorem OriginUnit.setSlot_refreshDue (o : OriginUnit) (k : Nat) (sl : OwnSlot) : (o.setSlot k sl).refreshDue = o.refreshDue := rfl
@[simp] theorem OriginUnit.setSlot_slips (o : OriginUnit) (k : Nat) (sl : OwnSlot) : (o.setSlot k sl).slips = o.slips := rfl
@[simp] theorem OriginUnit.setSlot_held (o : OriginUnit) (k : Nat) (sl : OwnSlot) : (o.setSlot k sl).held = o.held := rfl
@[simp] theorem OriginUnit.setSlot_ackSlot (o : OriginUnit) (k : Nat) (sl : OwnSlot) : (o.setSlot k sl).ackSlot = o.ackSlot := rfl
@[simp] theorem OriginUnit.setSlot_runTag (o : OriginUnit) (k : Nat) (sl : OwnSlot) : (o.setSlot k sl).runTag = o.runTag := rfl
@[simp] theorem OriginUnit.setSlot_acksIgnored (o : OriginUnit) (k : Nat) (sl : OwnSlot) : (o.setSlot k sl).acksIgnored = o.acksIgnored := rfl

/-! ### OriginUnit.handReports -/

@[simp] theorem OriginUnit.handReports_slots (o : OriginUnit) (l : List ConditionReport) : (o.handReports l).slots = o.slots := rfl
@[simp] theorem OriginUnit.handReports_reportsIn (o : OriginUnit) (l : List ConditionReport) : (o.handReports l).reportsIn = o.reportsIn ++ l := rfl
@[simp] theorem OriginUnit.handReports_stationIn (o : OriginUnit) (l : List ConditionReport) : (o.handReports l).stationIn = o.stationIn := rfl
@[simp] theorem OriginUnit.handReports_holdIn (o : OriginUnit) (l : List ConditionReport) : (o.handReports l).holdIn = o.holdIn := rfl
@[simp] theorem OriginUnit.handReports_acksIn (o : OriginUnit) (l : List ConditionReport) : (o.handReports l).acksIn = o.acksIn := rfl
@[simp] theorem OriginUnit.handReports_changeQueue (o : OriginUnit) (l : List ConditionReport) : (o.handReports l).changeQueue = o.changeQueue := rfl
@[simp] theorem OriginUnit.handReports_ownUpdates (o : OriginUnit) (l : List ConditionReport) : (o.handReports l).ownUpdates = o.ownUpdates := rfl
@[simp] theorem OriginUnit.handReports_pointer (o : OriginUnit) (l : List ConditionReport) : (o.handReports l).pointer = o.pointer := rfl
@[simp] theorem OriginUnit.handReports_stepDue (o : OriginUnit) (l : List ConditionReport) : (o.handReports l).stepDue = o.stepDue := rfl
@[simp] theorem OriginUnit.handReports_refreshDue (o : OriginUnit) (l : List ConditionReport) : (o.handReports l).refreshDue = o.refreshDue := rfl
@[simp] theorem OriginUnit.handReports_slips (o : OriginUnit) (l : List ConditionReport) : (o.handReports l).slips = o.slips := rfl
@[simp] theorem OriginUnit.handReports_held (o : OriginUnit) (l : List ConditionReport) : (o.handReports l).held = o.held := rfl
@[simp] theorem OriginUnit.handReports_ackSlot (o : OriginUnit) (l : List ConditionReport) : (o.handReports l).ackSlot = o.ackSlot := rfl
@[simp] theorem OriginUnit.handReports_runTag (o : OriginUnit) (l : List ConditionReport) : (o.handReports l).runTag = o.runTag := rfl
@[simp] theorem OriginUnit.handReports_acksIgnored (o : OriginUnit) (l : List ConditionReport) : (o.handReports l).acksIgnored = o.acksIgnored := rfl

/-! ### OriginUnit.handStation -/

@[simp] theorem OriginUnit.handStation_slots (o : OriginUnit) (r : StationReport) : (o.handStation r).slots = o.slots := rfl
@[simp] theorem OriginUnit.handStation_reportsIn (o : OriginUnit) (r : StationReport) : (o.handStation r).reportsIn = o.reportsIn := rfl
@[simp] theorem OriginUnit.handStation_stationIn (o : OriginUnit) (r : StationReport) : (o.handStation r).stationIn = o.stationIn ++ [r] := rfl
@[simp] theorem OriginUnit.handStation_holdIn (o : OriginUnit) (r : StationReport) : (o.handStation r).holdIn = o.holdIn := rfl
@[simp] theorem OriginUnit.handStation_acksIn (o : OriginUnit) (r : StationReport) : (o.handStation r).acksIn = o.acksIn := rfl
@[simp] theorem OriginUnit.handStation_changeQueue (o : OriginUnit) (r : StationReport) : (o.handStation r).changeQueue = o.changeQueue := rfl
@[simp] theorem OriginUnit.handStation_ownUpdates (o : OriginUnit) (r : StationReport) : (o.handStation r).ownUpdates = o.ownUpdates := rfl
@[simp] theorem OriginUnit.handStation_pointer (o : OriginUnit) (r : StationReport) : (o.handStation r).pointer = o.pointer := rfl
@[simp] theorem OriginUnit.handStation_stepDue (o : OriginUnit) (r : StationReport) : (o.handStation r).stepDue = o.stepDue := rfl
@[simp] theorem OriginUnit.handStation_refreshDue (o : OriginUnit) (r : StationReport) : (o.handStation r).refreshDue = o.refreshDue := rfl
@[simp] theorem OriginUnit.handStation_slips (o : OriginUnit) (r : StationReport) : (o.handStation r).slips = o.slips := rfl
@[simp] theorem OriginUnit.handStation_held (o : OriginUnit) (r : StationReport) : (o.handStation r).held = o.held := rfl
@[simp] theorem OriginUnit.handStation_ackSlot (o : OriginUnit) (r : StationReport) : (o.handStation r).ackSlot = o.ackSlot := rfl
@[simp] theorem OriginUnit.handStation_runTag (o : OriginUnit) (r : StationReport) : (o.handStation r).runTag = o.runTag := rfl
@[simp] theorem OriginUnit.handStation_acksIgnored (o : OriginUnit) (r : StationReport) : (o.handStation r).acksIgnored = o.acksIgnored := rfl

/-! ### DispatcherPort.post -/

@[simp] theorem DispatcherPort.post_rate (p : DispatcherPort) (r : Report) : (p.post r).rate = p.rate := rfl
@[simp] theorem DispatcherPort.post_assembler (p : DispatcherPort) (r : Report) : (p.post r).assembler = p.assembler := rfl
@[simp] theorem DispatcherPort.post_finished (p : DispatcherPort) (r : Report) : (p.post r).finished = p.finished := rfl
@[simp] theorem DispatcherPort.post_requests (p : DispatcherPort) (r : Report) : (p.post r).requests = p.requests := rfl
@[simp] theorem DispatcherPort.post_service (p : DispatcherPort) (r : Report) : (p.post r).service = p.service := rfl
@[simp] theorem DispatcherPort.post_reports (p : DispatcherPort) (r : Report) : (p.post r).reports = p.reports ++ [r] := rfl
@[simp] theorem DispatcherPort.post_sent (p : DispatcherPort) (r : Report) : (p.post r).sent = p.sent := rfl
@[simp] theorem DispatcherPort.post_lastOut (p : DispatcherPort) (r : Report) : (p.post r).lastOut = p.lastOut := rfl
@[simp] theorem DispatcherPort.post_filter (p : DispatcherPort) (r : Report) : (p.post r).filter = p.filter := rfl
@[simp] theorem DispatcherPort.post_watch (p : DispatcherPort) (r : Report) : (p.post r).watch = p.watch := rfl
@[simp] theorem DispatcherPort.post_limit (p : DispatcherPort) (r : Report) : (p.post r).limit = p.limit := rfl
@[simp] theorem DispatcherPort.post_resync (p : DispatcherPort) (r : Report) : (p.post r).resync = p.resync := rfl
@[simp] theorem DispatcherPort.post_dump (p : DispatcherPort) (r : Report) : (p.post r).dump = p.dump := rfl
@[simp] theorem DispatcherPort.post_dumpEndWaiting (p : DispatcherPort) (r : Report) : (p.post r).dumpEndWaiting = p.dumpEndWaiting := rfl
@[simp] theorem DispatcherPort.post_dropped (p : DispatcherPort) (r : Report) : (p.post r).dropped = p.dropped := rfl
@[simp] theorem DispatcherPort.post_discarded (p : DispatcherPort) (r : Report) : (p.post r).discarded = p.discarded := rfl

/-! ### Field.setMonitor -/

@[simp] theorem Field.setMonitor_duskOn (f : Field) (p : Nat) (m : Monitor) : (f.setMonitor p m).duskOn = f.duskOn := rfl
@[simp] theorem Field.setMonitor_duskSampledAt (f : Field) (p : Nat) (m : Monitor) : (f.setMonitor p m).duskSampledAt = f.duskSampledAt := rfl
@[simp] theorem Field.setMonitor_duskChangedAt (f : Field) (p : Nat) (m : Monitor) : (f.setMonitor p m).duskChangedAt = f.duskChangedAt := rfl
@[simp] theorem Field.setMonitor_settleEnd (f : Field) (p : Nat) (m : Monitor) : (f.setMonitor p m).settleEnd = f.settleEnd := rfl
@[simp] theorem Field.setMonitor_settleEndedAt (f : Field) (p : Nat) (m : Monitor) : (f.setMonitor p m).settleEndedAt = f.settleEndedAt := rfl
@[simp] theorem Field.setMonitor_monitors (f : Field) (p : Nat) (m : Monitor) : (f.setMonitor p m).monitors = f.monitors.set (p - 1) m := rfl
@[simp] theorem Field.setMonitor_malformedBursts (f : Field) (p : Nat) (m : Monitor) : (f.setMonitor p m).malformedBursts = f.malformedBursts := rfl
end Sys2Proof.Machine
end

