-- ==== Sys2Proof/Laws/Ops.lean ====
section
/-!
SUPPORT. What the shared operations with a choice in them can do, said once: answering, waking, slots, offers, queues and ordered lists, the gate, lookups and deletes of a claim, the frames offered, a failed attempt, the waiting order.
-/
namespace Sys2Proof.Machine

/-! ### Answering -/

@[simp] theorem answer_true (t : State) : answer true t = .next t := rfl

@[simp] theorem answer_false (t : State) : answer false t = .fault .illFormedCommand := rfl

/-- A meaning that answers a next state has passed its check, and the state is its effect. -/
theorem answer_next {ok : Bool} {t u : State} (h : answer ok t = .next u) : ok = true ∧ u = t := by
  cases ok
  · simp at h
  · simp at h; exact ⟨rfl, h.symm⟩

/-! ### Waking (R136) -/

/-- What waking can do: the transmitter's state alone, from IDLE to WAITING. -/
theorem State.wake_eq (s : State) :
    s.wake = { s with tx := { s.tx with state :=
      if s.loader.state = .inStep ∧ s.tx.state = .idle ∧
          (s.origin.changeQueue ≠ [] ∨ s.origin.ackSlot ≠ none ∨ s.origin.refreshDue ≠ none)
        then .waiting else s.tx.state } } := by
  have e : (s.loader.state = .inStep && s.tx.state = .idle && s.workPending) = true ↔
      (s.loader.state = .inStep ∧ s.tx.state = .idle ∧
        (s.origin.changeQueue ≠ [] ∨ s.origin.ackSlot ≠ none ∨ s.origin.refreshDue ≠ none)) := by
    simp [State.workPending, Option.isSome_iff_ne_none, and_assoc, or_assoc]
  unfold State.wake
  by_cases h : (s.loader.state = .inStep && s.tx.state = .idle && s.workPending) = true
  · rw [if_pos h, if_pos (e.1 h)]
  · rw [if_neg h, if_neg (fun x => h (e.2 x))]

@[simp] theorem State.wake_pending (s : State) : s.wake.pending = s.pending := by rw [State.wake_eq]
@[simp] theorem State.wake_freeIx (s : State) : s.wake.freeIx = s.freeIx := by rw [State.wake_eq]
@[simp] theorem State.wake_time (s : State) : s.wake.time = s.time := by rw [State.wake_eq]
@[simp] theorem State.wake_loader (s : State) : s.wake.loader = s.loader := by rw [State.wake_eq]
@[simp] theorem State.wake_field (s : State) : s.wake.field = s.field := by rw [State.wake_eq]
@[simp] theorem State.wake_origin (s : State) : s.wake.origin = s.origin := by rw [State.wake_eq]
@[simp] theorem State.wake_table (s : State) : s.wake.table = s.table := by rw [State.wake_eq]
@[simp] theorem State.wake_roster (s : State) : s.wake.roster = s.roster := by rw [State.wake_eq]
@[simp] theorem State.wake_rx (s : State) : s.wake.rx = s.rx := by rw [State.wake_eq]
@[simp] theorem State.wake_port (s : State) : s.wake.port = s.port := by rw [State.wake_eq]
@[simp] theorem State.wake_current (s : State) : s.wake.tx.current = s.tx.current := by rw [State.wake_eq]
@[simp] theorem State.wake_failures (s : State) : s.wake.tx.failures = s.tx.failures := by rw [State.wake_eq]

/-- Outside IN-STEP nothing wakes. -/
theorem State.wake_of_not_inStep (s : State) (h : s.loader.state ≠ .inStep) : s.wake = s := by
  simp [State.wake, h]

/-! ### Slots and offers -/

/-- A slot after a slot has been written. -/
theorem OriginUnit.slot_setSlot (o : OriginUnit) (k j : Nat) (sl : OwnSlot) (h : k < o.slots.length) :
    (o.setSlot k sl).slot j = if j = k then sl else o.slot j := by
  unfold OriginUnit.slot OriginUnit.setSlot
  by_cases hj : j = k
  · subst hj; simp [h]
  · simp [hj, Ne.symm hj]

/-- An offer changes the list of own updates alone. -/
theorem OriginUnit.offer_eq (o : OriginUnit) (k : Nat) :
    o.offer k = { o with ownUpdates := if k ∈ o.ownUpdates then o.ownUpdates else o.ownUpdates ++ [k] } := by
  unfold OriginUnit.offer
  by_cases h : k ∈ o.ownUpdates <;> simp [h]

/-- What a change of an own record does to the Origin Unit and the transmitter, as one equation. -/
theorem State.commit_eq (s : State) (k : Nat) (sl : OwnSlot) (r : Record) :
    s.commit k sl r = State.wake { s with origin :=
      { s.origin with
        slots := s.origin.slots.set k
          { sl with record := some { r with version := sl.version + 1 }, version := sl.version + 1, announced := false }
        ownUpdates := if k ∈ s.origin.ownUpdates then s.origin.ownUpdates else s.origin.ownUpdates ++ [k]
        changeQueue :=
          if s.queues && !s.origin.changeQueue.contains k &&
              !s.origin.deferred { r with version := sl.version + 1 }
            then s.enqueue k s.origin.changeQueue else s.origin.changeQueue } } := by
  have hd : ∀ (o : OriginUnit) (x : Record), o.held = s.origin.held → o.deferred x = s.origin.deferred x := by
    intro o x h; unfold OriginUnit.deferred; rw [h]
  unfold State.commit
  dsimp only
  generalize hx : ({ r with version := sl.version + 1 } : Record) = x
  rw [hd _ x (by rw [OriginUnit.offer_eq]; rfl), OriginUnit.offer_eq]
  dsimp only [OriginUnit.setSlot]
  by_cases h : (s.queues && !s.origin.changeQueue.contains k && !s.origin.deferred x) = true
  · simp only [h, if_true]; rfl
  · simp only [Bool.eq_false_iff.2 h, Bool.false_eq_true, if_false]; rfl

/-! ### The change queue (R95) -/

/-- A slot is in the queue after an entry joins exactly when it was, or is the slot that joined. -/
theorem State.mem_enqueue (s : State) (k j : Nat) (q : List Nat) : j ∈ s.enqueue k q ↔ j ∈ q ∨ j = k := by
  unfold State.enqueue
  split
  · simp only [List.mem_append, List.mem_filter, List.mem_singleton, Bool.not_eq_true']
    cases h : s.urgent j <;> simp [or_comm]
  · simp

/-- Entries that join one after another. -/
theorem State.mem_enqueueAll (s : State) (l : List Nat) (j : Nat) (q : List Nat) :
    j ∈ l.foldl (fun q k => s.enqueue k q) q ↔ j ∈ q ∨ j ∈ l := by
  induction l generalizing q with
  | nil => simp
  | cons k l ih => simp [ih, State.mem_enqueue, or_assoc]

/-! ### Ordered lists -/

theorem mem_insertNat (n m : Nat) (l : List Nat) : m ∈ insertNat n l ↔ m = n ∨ m ∈ l := by
  induction l with
  | nil => simp [insertNat]
  | cons x l ih =>
    unfold insertNat
    split
    · simp
    · split
      · simp_all
      · simp [ih, or_left_comm]

theorem mem_mergeNat (m : Nat) (l l' : List Nat) : m ∈ mergeNat l l' ↔ m ∈ l ∨ m ∈ l' := by
  induction l with
  | nil => simp [mergeNat]
  | cons x l ih =>
    have : mergeNat (x :: l) l' = insertNat x (mergeNat l l') := rfl
    rw [this, mem_insertNat, ih]; simp [or_assoc]

theorem insertNat_ascending (n : Nat) (l : List Nat) (h : l.Pairwise (· < ·)) : (insertNat n l).Pairwise (· < ·) := by
  induction l with
  | nil => simp [insertNat]
  | cons x l ih =>
    have hx := List.pairwise_cons.1 h
    unfold insertNat
    split
    · rename_i hn
      refine List.pairwise_cons.2 ⟨?_, h⟩
      intro a ha
      rcases List.mem_cons.1 ha with rfl | ha
      · exact hn
      · exact Nat.lt_trans hn (hx.1 a ha)
    · split
      · exact h
      · rename_i h1 h2
        refine List.pairwise_cons.2 ⟨?_, ih hx.2⟩
        intro a ha
        rcases (mem_insertNat n a l).1 ha with rfl | ha
        · omega
        · exact hx.1 a ha

theorem mergeNat_ascending (l m : List Nat) (h : m.Pairwise (· < ·)) : (mergeNat l m).Pairwise (· < ·) := by
  induction l with
  | nil => exact h
  | cons x l ih => exact insertNat_ascending x _ ih

theorem mem_condJoin (c d : Condition) (l : List Condition) : d ∈ condJoin c l ↔ d = c ∨ d ∈ l := by
  induction l with
  | nil => simp [condJoin]
  | cons x l ih =>
    unfold condJoin
    split
    · simp
    · split
      · simp_all
      · simp [ih, or_left_comm]

theorem mem_condLeave (c d : Condition) (l : List Condition) : d ∈ condLeave c l ↔ d ∈ l ∧ d ≠ c := by
  simp [condLeave]

theorem pushTime_length_le (cap now : Nat) (l : List Nat) (hc : 1 ≤ cap) (h : l.length ≤ cap) :
    (pushTime cap now l).length ≤ cap := by
  unfold pushTime
  split <;> simp <;> omega

/-! ### Lookups in the tables -/

/-- Every key but the inserted one is found as before. -/
theorem findRecord_insert_of_ne (r : Record) (l : List Record) (k : Key) (h : k ≠ r.key) :
    findRecord (insertRecord r l) k = findRecord l k := by
  induction l with
  | nil => simp [insertRecord, findRecord, Ne.symm h]
  | cons x l ih =>
    unfold insertRecord
    split
    · simp [findRecord, Ne.symm h]
    · simp only [findRecord, List.find?_cons] at *
      rw [ih]

/-- An inserted record is found, where its key was absent. -/
theorem findRecord_insert (r : Record) (l : List Record) (h : findRecord l r.key = none) :
    findRecord (insertRecord r l) r.key = some r := by
  induction l with
  | nil => simp [insertRecord, findRecord]
  | cons x l ih =>
    have hx : x.key ≠ r.key := by
      simp only [findRecord, List.find?_eq_none, decide_eq_true_eq] at h
      exact h x (List.mem_cons_self ..)
    have hl : findRecord l r.key = none := by
      simp only [findRecord, List.find?_eq_none, decide_eq_true_eq] at h ⊢
      exact fun y hy => h y (List.mem_cons_of_mem _ hy)
    unfold insertRecord
    split
    · simp [findRecord]
    · simp only [findRecord, List.find?_cons, hx, decide_false] at *
      exact ih hl

/-- A key that is not overwritten is found as before. -/
theorem findRecord_put_of_ne (r : Record) (l : List Record) (k : Key) (h : k ≠ r.key) :
    findRecord (putRecord r l) k = findRecord l k := by
  induction l with
  | nil => rfl
  | cons x l ih =>
    simp only [putRecord, findRecord, List.map_cons, List.find?_cons] at *
    rw [ih]
    by_cases hx : x.key = r.key
    · simp [hx, Ne.symm h]
    · simp [hx]

/-- An overwritten record is found, where its key was present. -/
theorem findRecord_put (r : Record) (l : List Record) (h : (findRecord l r.key).isSome = true) :
    findRecord (putRecord r l) r.key = some r := by
  induction l with
  | nil => simp [findRecord] at h
  | cons x l ih =>
    simp only [putRecord, findRecord, List.map_cons, List.find?_cons] at *
    by_cases hx : x.key = r.key
    · simp [hx]
    · simp only [hx, decide_false, if_false] at *
      exact ih h

/-- A lookup after records have left. -/
theorem findRecord_erase (l : List Record) (k j : Key) :
    findRecord (eraseRecord j l) k = if k = j then none else findRecord l k := by
  induction l with
  | nil => simp [findRecord, eraseRecord]
  | cons x l ih =>
    unfold findRecord eraseRecord at *
    by_cases hx : x.key = j
    · rw [List.filter_cons_of_neg (by simp [hx]), ih, List.find?_cons]
      by_cases hk : k = j
      · simp [hk]
      · simp [hk, hx, Ne.symm hk]
    · rw [List.filter_cons_of_pos (by simp [hx]), List.find?_cons, List.find?_cons, ih]
      by_cases hk : k = j
      · subst hk; simp [hx]
      · by_cases hxk : x.key = k <;> simp [hxk, hk]

/-- A record that is found has the key and is in the table. -/
theorem findRecord_some {l : List Record} {k : Key} {r : Record} (h : findRecord l k = some r) :
    r.key = k ∧ r ∈ l := by
  have := List.find?_some h
  exact ⟨by simpa using this, List.mem_of_find?_eq_some h⟩

/-! ### Work of a claim: the tables it leaves alone -/

/-- A delete leaves the record of its key absent and every other as it was. -/
theorem Work.findRecord_delete (w : Work) (k j : Key) (c : DeleteCause) :
    findRecord (w.delete k c).te.cft j = if j = k then none else findRecord w.te.cft j := by
  unfold Work.delete
  split
  · rename_i h
    by_cases hj : j = k
    · simp [hj, h]
    · simp [hj]
  · exact findRecord_erase ..

/-- Deletes, one after another. -/
theorem Work.findRecord_deleteAll (w : Work) (l : List Key) (j : Key) (c : DeleteCause) :
    findRecord (w.deleteAll l c).te.cft j = if j ∈ l then none else findRecord w.te.cft j := by
  unfold Work.deleteAll
  induction l generalizing w with
  | nil => simp
  | cons k l ih =>
    simp only [List.foldl_cons, ih, Work.findRecord_delete, List.mem_cons]
    by_cases h1 : j = k <;> by_cases h2 : j ∈ l <;> simp [h1, h2]

/-! ### The close of a claim leaves the CFT -/

theorem groupEffect_cft (s : State) (c : GroupWork) (g : Nat) : (groupEffect s c g).te.cft = c.te.cft := by
  unfold groupEffect GroupWork.create
  repeat' split
  all_goals rfl

theorem rescanGroup_cft (c : GroupWork) (g : Nat) : (rescanGroup c g).te.cft = c.te.cft := by
  unfold rescanGroup GroupWork.create
  repeat' split
  all_goals rfl

theorem groupEffects_cft (s : State) (l : List Nat) (c : GroupWork) :
    (l.foldl (groupEffect s) c).te.cft = c.te.cft := by
  induction l generalizing c with
  | nil => rfl
  | cons g l ih => rw [List.foldl_cons, ih, groupEffect_cft]

theorem GroupWork.rescan_cft (c : GroupWork) : c.rescan.te.cft = c.te.cft := by
  unfold GroupWork.rescan
  split
  · generalize lackingGroups c.te = l
    induction l generalizing c with
    | nil => rfl
    | cons g l ih =>
      rw [List.foldl_cons]
      have := rescanGroup_cft c g
      rename_i hc
      clear hc
      have key : ∀ (l : List Nat) (c : GroupWork), (l.foldl rescanGroup c).te.cft = c.te.cft := by
        intro l
        induction l with
        | nil => intro c; rfl
        | cons g l ih => intro c; rw [List.foldl_cons, ih, rescanGroup_cft]
      rw [key, this]
  · rfl

theorem TableEngine.groupFullCheck_cft (te : TableEngine) : te.groupFullCheck.1.cft = te.cft := by
  unfold TableEngine.groupFullCheck; split <;> rfl

theorem TableEngine.groupFullCheck_groups (te : TableEngine) : te.groupFullCheck.1.groups = te.groups := by
  unfold TableEngine.groupFullCheck; split <;> rfl

theorem TableEngine.clashCheck_cft (te : TableEngine) (own : Nat) (l : List Nat) :
    (te.clashCheck own l).1.cft = te.cft := by
  unfold TableEngine.clashCheck; dsimp only; repeat' split
  all_goals rfl

theorem TableEngine.clashCheck_groups (te : TableEngine) (own : Nat) (l : List Nat) :
    (te.clashCheck own l).1.groups = te.groups := by
  unfold TableEngine.clashCheck; dsimp only; repeat' split
  all_goals rfl

theorem TableEngine.tableFullCheck_cft (te : TableEngine) (own : Nat) : (te.tableFullCheck own).1.cft = te.cft := by
  unfold TableEngine.tableFullCheck; split <;> rfl

theorem TableEngine.tableFullCheck_groups (te : TableEngine) (own : Nat) :
    (te.tableFullCheck own).1.groups = te.groups := by
  unfold TableEngine.tableFullCheck; split <;> rfl

/-- A close leaves the CFT as the claim's operations left it. -/
theorem Work.close_cft (w : Work) (s : State) : (w.close s).te.cft = w.te.cft := by
  unfold Work.close
  dsimp only
  rw [TableEngine.tableFullCheck_cft]
  split
  · rw [TableEngine.clashCheck_cft, TableEngine.groupFullCheck_cft, GroupWork.rescan_cft, groupEffects_cft]
  · rw [TableEngine.groupFullCheck_cft, GroupWork.rescan_cft, groupEffects_cft]

/-- A claim that touched no group and removed no entry leaves the group table as its operations left it. -/
theorem Work.close_groups (w : Work) (s : State) (ht : w.touched = []) (he : w.ended = []) :
    (w.close s).te.groups = w.te.groups := by
  unfold Work.close
  dsimp only
  rw [TableEngine.tableFullCheck_groups]
  split
  · rw [TableEngine.clashCheck_groups, TableEngine.groupFullCheck_groups]
    simp [ht, he, GroupWork.rescan]
  · rw [TableEngine.groupFullCheck_groups]
    simp [ht, he, GroupWork.rescan]

/-- Between equal group tables there is no GROUP notice. -/
theorem groupNotices_self (groups : List GroupEntry) (cft : List Record) : groupNotices groups groups cft = [] := by
  simp only [groupNotices, List.flatMap_eq_nil_iff]
  intro x _
  simp only [groupNotice]
  cases findEntry groups x <;> simp

/-- A claim that changes nothing hands on no signal. -/
theorem Work.close_begin_signals (s : State) : ((Work.begin s.table).close s).signals = [] := by
  unfold Work.close
  dsimp only
  simp [Work.begin, GroupWork.rescan, holdSignals, mergeNat]

/-- A claim that changes nothing hands on no notice. -/
theorem Work.close_begin_notices (s : State) : ((Work.begin s.table).close s).notices = [] := by
  have hg : ((Work.begin s.table).close s).te.groups = s.table.groups := Work.close_groups _ _ rfl rfl
  have h : ((Work.begin s.table).close s).notices =
      recordNotices s.table (Work.begin s.table) ((Work.begin s.table).close s).te ++
        groupNotices s.table.groups ((Work.begin s.table).close s).te.groups
          ((Work.begin s.table).close s).te.cft := rfl
  rw [h, hg, groupNotices_self]
  rfl

/-! ### The gate (R171) -/

/-- The gate changes the report queue, the dropped count and the pending RESYNC alone. -/
theorem DispatcherPort.gate_frame (p : DispatcherPort) (n : Notice) :
    p.gate n = { p with
      reports := (p.gate n).reports, dropped := (p.gate n).dropped, resync := (p.gate n).resync } := by
  unfold DispatcherPort.gate DispatcherPort.post
  split
  · split <;> rfl
  · rfl

theorem DispatcherPort.gateAll_frame (p : DispatcherPort) (l : List Notice) :
    p.gateAll l = { p with
      reports := (p.gateAll l).reports, dropped := (p.gateAll l).dropped, resync := (p.gateAll l).resync } := by
  unfold DispatcherPort.gateAll
  induction l generalizing p with
  | nil => rfl
  | cons n l ih =>
    rw [List.foldl_cons, ih, DispatcherPort.gate_frame]

/-- The gate posts only below the notice limit (R171). -/
theorem DispatcherPort.gate_length (p : DispatcherPort) (n : Notice) (b : Nat) (hb : p.limit ≤ b)
    (h : p.reports.length ≤ b) : (p.gate n).reports.length ≤ b := by
  unfold DispatcherPort.gate DispatcherPort.post
  split
  · split
    · simp; omega
    · exact h
  · exact h

/-! ### The Roster Unit's operations keep the stations listed -/

theorem RosterUnit.put_stations (u : RosterUnit) (e : RosterEntry) :
    (u.put e).entries.map (·.station) = u.entries.map (·.station) := by
  unfold RosterUnit.put
  rw [List.map_map]
  apply List.map_congr_left
  intro x _
  simp only [Function.comp]
  split
  · rename_i h; exact h.symm
  · rfl

/-! ### The frames offered (R107, R110) -/

@[simp] theorem State.framesOffered_of_none {s : State} (h : s.loader.rejoin = none) : s.framesOffered = s.rx.queue := by
  simp [State.framesOffered, State.rejoining, h]

@[simp] theorem State.framesOffered_of_some {s : State} {r : RejoinParts} (h : s.loader.rejoin = some r) :
    s.framesOffered = [] := by
  simp [State.framesOffered, State.rejoining, h]

/-- A frame is the arbiter's choice only outside a REJOIN, at the head of the queue. -/
theorem State.nextClaim_frame {s : State} {f : PeerFrame} (h : s.nextClaim = some (.frame f)) :
    s.loader.rejoin = none ∧ s.rx.queue.head? = some f := by
  unfold State.nextClaim at h
  split at h
  · cases hr : s.loader.rejoin with
    | some r => rw [State.framesOffered_of_some hr] at h; split at h <;> simp_all
    | none => rw [State.framesOffered_of_none hr] at h; split at h <;> simp_all
  · cases h

/-! ### A failed attempt (R143, R146 to R148, R152) -/

/-- The character that a failed attempt was putting out has ended. -/
theorem State.outputFree_iff (s : State) : s.outputFree = true ↔ ∀ e, s.tx.outEnd = some e → e ≤ s.rx.clock := by
  unfold State.outputFree
  split <;> simp_all

/-- An ended send rests or waits: it is not being sent. -/
theorem State.endSend_not_sending (s : State) : s.endSend.tx.state.isSending = false := by
  unfold State.endSend
  rw [State.wake_eq]
  dsimp only
  split <;> rfl

/-- What ending a send can do: the transmitter's state and its current send alone. -/
theorem State.endSend_frame (s : State) :
    s.endSend = { s with tx := { s.tx with state := s.endSend.tx.state, current := none } } := by
  unfold State.endSend
  rw [State.wake_eq]

/-- After a send has ended the transmitter waits in IN-STEP with work pending, and rests otherwise. -/
theorem State.endSend_state (s : State) :
    s.endSend.tx.state = if s.loader.state = .inStep ∧
        (s.origin.changeQueue ≠ [] ∨ s.origin.ackSlot ≠ none ∨ s.origin.refreshDue ≠ none)
      then .waiting else .idle := by
  unfold State.endSend
  rw [State.wake_eq]
  simp

/-- What a failed attempt can touch: the station state, the transmitter, the Origin Unit, the port, and the draw of a free value. -/
theorem State.attemptFail_frame (s : State) :
    s.attemptFail = { s with
      freeIx := s.attemptFail.freeIx, loader := s.attemptFail.loader, tx := s.attemptFail.tx
      origin := s.attemptFail.origin, port := s.attemptFail.port } := by
  unfold State.attemptFail State.enterMute State.abandon
  dsimp only
  repeat' split
  all_goals first | rfl | (rw [State.endSend_frame])

/-- After a failure no attempt is being sent. -/
theorem State.attemptFail_not_sending (s : State) : s.attemptFail.tx.state.isSending = false := by
  unfold State.attemptFail State.enterMute State.abandon
  dsimp only
  repeat' split
  all_goals first | rfl | exact State.endSend_not_sending _

/-- After a failure the character being put out is finished, whatever the failure leads to. -/
theorem State.attemptFail_outEnd (s : State) : s.attemptFail.tx.outEnd = s.cutOff := by
  unfold State.attemptFail State.enterMute State.abandon
  dsimp only
  repeat' split
  all_goals first | rfl | (rw [State.endSend_frame])

/-- A failure counts one collision. -/
theorem State.attemptFail_collisions (s : State) : s.attemptFail.tx.collisions = s.tx.collisions + 1 := by
  unfold State.attemptFail State.enterMute State.abandon
  dsimp only
  repeat' split
  all_goals first | rfl | (rw [State.endSend_frame])

/-! ### The end of a REJOIN (R183) -/

/-- The clears have reached the table. -/
theorem State.clearsTaken_iff (s : State) :
    s.clearsTaken = true ↔ (∀ r ∈ s.origin.stationIn, r.source ≠ .tableEngine) ∧ 0 ∉ s.origin.ownUpdates := by
  simp [State.clearsTaken]

/-! ### The waiting order of the timer expiries (R11) -/

/-- A timer claim joins ahead of the first that it comes before. -/
theorem insertTimer_splits (c : TimerClaim) (l : List TimerClaim) :
    ∃ front back, l = front ++ back ∧ insertTimer c l = front ++ c :: back ∧
      (∀ x ∈ front, c.before x = false) ∧ ∀ x, back.head? = some x → c.before x = true := by
  induction l with
  | nil => exact ⟨[], [], rfl, rfl, by simp, by simp⟩
  | cons d l ih =>
    by_cases h : c.before d = true
    · exact ⟨[], d :: l, rfl, by simp [insertTimer, h], by simp, by simp [h]⟩
    · obtain ⟨front, back, e1, e2, e3, e4⟩ := ih
      exact ⟨d :: front, back, by simp [e1], by simp [insertTimer, h, e2], by simpa [h] using e3, e4⟩

/-- A timer claim that joins is in the list with those that stood there. -/
theorem mem_insertTimer (c x : TimerClaim) (l : List TimerClaim) : x ∈ insertTimer c l ↔ x = c ∨ x ∈ l := by
  obtain ⟨front, back, e1, e2, _, _⟩ := insertTimer_splits c l
  rw [e2, e1]
  simp only [List.mem_append, List.mem_cons]
  tauto

/-! ### Deletes of a claim -/

/-- What a delete leaves of the CFT. -/
theorem Work.delete_cft (w : Work) (k : Key) (c : DeleteCause) : (w.delete k c).te.cft = eraseRecord k w.te.cft := by
  unfold Work.delete
  split
  · rename_i h
    refine (List.filter_eq_self.2 ?_).symm
    intro r hr
    simpa using List.find?_eq_none.1 h r hr
  · rfl

/-- What deletes, one after another, leave of the CFT. -/
theorem Work.deleteAll_cft (w : Work) (l : List Key) (c : DeleteCause) :
    (w.deleteAll l c).te.cft = w.te.cft.filter (fun r => decide (r.key ∉ l)) := by
  unfold Work.deleteAll
  induction l generalizing w with
  | nil => simp
  | cons k l ih =>
    rw [List.foldl_cons, ih, Work.delete_cft, eraseRecord, List.filter_filter]
    apply List.filter_congr
    intro r _
    simp [Bool.and_comm]

end Sys2Proof.Machine
end

