-- ==== Sys2Proof/Tests/Slice0.lean ====
section
/-!
SUPPORT. The model's own tests: the well-formedness smoke, worked values of the manual, and for each statement with hypotheses a state and operands that meet them, at the ends of their ranges.
-/
namespace Sys2Proof.Tests
open Sys2Proof.Machine

/-! ### Small states -/

/-- The next state of an outcome. -/
def nextOf : Outcome → Option State
  | .next t => some t
  | _ => none

/-- Station 5 with a LAMP in group 3, a LOOP, a SIGN and the SUPPLY of group 3. -/
def profile : Profile :=
  { station := 5, lineRate := 9600, consoleRate := 19200, window := 120, returnGrace := 30, shedThreshold := 24
    noticeLimit := 56
    points :=
      [⟨some .lamp, 3, 0, 1, .lamp 10 300 3⟩, ⟨some .loop, 0, 0, 1, .loop 4 300 40⟩,
       ⟨some .sign, 0, 0, 1, .sign 30⟩, ⟨some .supply, 3, 0, 1, .supply 1 2⟩] }

/-- The monitors of these points, the first lamp dark. -/
def monitors : List Monitor :=
  [Monitor.start (some .lamp) false 0, Monitor.start (some .loop) false 0, Monitor.start (some .sign) false 0,
   Monitor.start (some .supply) false 0]

/-- In IN-STEP at 1,000 s with nothing recorded. -/
def base : State :=
  { State.reset with
    time := { tick := 0, seconds := 1000, wraps := 0 }
    loader := { Loader.start with state := .inStep, profile := some profile, number := 5, reading := .done }
    field := { Field.start with monitors := monitors, duskOn := true }
    origin := { OriginUnit.start with runTag := some 7 } }

/-- The station in another state. -/
def inState (st : StationState) (s : State) : State := { s with loader := { s.loader with state := st } }

/-- A record. -/
def rec' (origin point : Nat) (kind : Kind) (c : Condition) (st : OriginState) (version : Version) : Record :=
  { key := ⟨origin, point⟩, kind := kind, conds := [c], state := st, flapping := false, group := 3, parent := none
    version := version, raisedAt := 900, occurrences := 1, ackMark := none, lastHeard := none, freshness := .fresh
    clearedAt := if st = .cleared then some 880 else none }

/-- A slot with a record. -/
def withSlot (k : Nat) (r : Record) (picture : List Condition) (s : State) : State :=
  s.putSlot k { OwnSlot.start with record := some r, version := r.version, picture := picture }

/-- A table. -/
def withTable (cft : List Record) (groups : List GroupEntry) (s : State) : State :=
  { s with table := { s.table with cft := cft, groups := groups } }

/-- A frame at the head of the receive queue. -/
def withFrame (n : Nat) (k : FrameKind) (b : List Byte) (s : State) : State :=
  { s with rx := { s.rx with queue := [⟨n, k, b⟩] } }

/-- A peer in the roster. -/
def withPeer (n : Nat) (st : PeerState) (tag : Option Word16) (s : State) : State :=
  { s with roster := { s.roster with entries := [⟨n, st, 100, 60, tag, 4⟩] } }

/-- A request at the head of the request queue. -/
def withRequest (q : Request) (s : State) : State := { s with port := { s.port with requests := [q] } }

/-- A transmitter sending three characters. -/
def sending (returned : Nat) (s : State) : State :=
  { s with tx := { s.tx with
    state := .sending ⟨[0xC5, 5, 1], 0, .record 1 4, returned⟩, current := some ⟨.change 1, 0, 0⟩ } }

/-! ### Well-formedness (log 16): an ill-formed command for each check -/

theorem test_illformed_point_zero : Instr.wellFormed (.outConfirm 0) = false := by decide
theorem test_illformed_point_high : Instr.wellFormed (.outConfirm 65) = false := by decide
theorem test_illformed_slot : Instr.wellFormed (.ownLingerEnd 65) = false := by decide
theorem test_illformed_station_zero : Instr.wellFormed (.silenceDeadline 0) = false := by decide
theorem test_illformed_station_high : Instr.wellFormed (.silenceDeadline 251) = false := by decide
theorem test_illformed_group_zero : Instr.wellFormed (.graceDeadlineDue 0) = false := by decide
theorem test_illformed_group_high : Instr.wellFormed (.graceDeadlineDue 512) = false := by decide
theorem test_illformed_header : Instr.wellFormed (.profileHeaderTaken [0]) = false := by decide
theorem test_illformed_image : Instr.wellFormed (.profileReadDone [0] false 0) = false := by decide
theorem test_illformed_linger : Instr.wellFormed (.lingerDeadlineDue 0 3) = false := by decide
theorem test_illformed_faults : exec (.outConfirm 0) base = .fault .illFormedCommand := rfl
theorem test_illformed_header_faults : exec (.profileHeaderTaken [0]) State.reset = .fault .illFormedCommand := rfl
theorem test_wellformed_ends :
    (Instr.wellFormed (.outConfirm 1) && Instr.wellFormed (.outConfirm 64) && Instr.wellFormed (.ownLingerEnd 0) &&
      Instr.wellFormed (.ownLingerEnd 64) && Instr.wellFormed (.silenceDeadline 250) &&
      Instr.wellFormed (.graceDeadlineDue 511)) = true := by decide

/-! ### Values of the manual -/

/-- The CRC of the nine ASCII digits 1 to 9 (R134). -/
theorem test_crc : crc16 [0x31, 0x32, 0x33, 0x34, 0x35, 0x36, 0x37, 0x38, 0x39] = 0x29B1#16 := by decide +kernel

/-- After reset the memory is selected and the read command with address 0 has gone out (R186). -/
theorem test_read_command : State.reset.loader.spiOut = [0x03, 0, 0] ∧ State.reset.loader.selected = true := by decide

/-- The walk's step intervals (R97). -/
theorem test_step_interval : [stepInterval 120, stepInterval 60, stepInterval 600] = [184, 92, 923] := by decide

/-- The lengths of report bodies (R209). -/
theorem test_report_lengths :
    [(RecordItem.bytes ((rec' 5 1 .lamp .lampOut .opened 1).item [])).length,
     (RosterEntry.first 9 0).bytes.length, (GroupItem.bytes ⟨⟨3, .down 5⟩, 2⟩).length,
     base.statusBody.bytes.length] = [27, 15, 10, 77] := by decide

/-- A request with a right and with a wrong checksum (R166, R209). -/
theorem test_request_judged :
    judgeRequest false [6, 3, 9, 1, 4, 0xE9] = .ack 9 1 4 ∧ judgeRequest false [6, 3, 9, 1, 4, 0xE8] = .malformed 6 := by
  decide

/-- The severities and the wanted condition of a picture (R5, R84). -/
theorem test_wanted : wanted [.lampOut, .lampDayburn] = some .lampOut ∧ wanted [.lampCycling, .lampDayburn] = some .lampCycling := by
  decide

/-- An own lamp OUT under a held group is deferred: it is offered to the table and not queued (R94, R96). -/
theorem test_deferred :
    let s := { base with origin := { base.origin with held := [3], reportsIn := [⟨1, .lampOut, true⟩] } }
    (nextOf (exec (.conditionReport 1) s)).map (fun t => (t.origin.changeQueue, t.origin.ownUpdates)) =
      some ([], [1]) := by decide

/-- A supply loss is urgent: it is queued ahead of a lamp (R95). -/
theorem test_urgent :
    let s := { base with origin := { base.origin with changeQueue := [1], reportsIn := [⟨4, .supplyLoss, true⟩] } }
    (nextOf (exec (.conditionReport 4) s)).map (fun t => t.origin.changeQueue) = some [4, 1] := by decide

/-- An own OPEN supply record creates its group's entry, and a CLEARED one turns it RETURNING (R36, R38). -/
theorem test_group_down :
    let s := withSlot 4 (rec' 5 4 .supply .supplyLoss .opened 1) [.supplyLoss] base
    let u := { s with origin := { s.origin with ownUpdates := [4] } }
    (nextOf (exec .ownUpdate u)).map (fun t => (t.table.groups, t.origin.holdIn)) =
      some ([⟨3, .down 5⟩], [.begun 3]) := by decide

theorem test_group_returning :
    let s := withTable [rec' 5 4 .supply .supplyLoss .opened 1] [⟨3, .down 5⟩]
      (withSlot 4 (rec' 5 4 .supply .supplyLoss .cleared 2) [] base)
    let u := { s with origin := { s.origin with ownUpdates := [4] } }
    (nextOf (exec .ownUpdate u)).map (fun t => t.table.groups) = some [⟨3, .returning 1030⟩] := by decide

/-! ### A state for each statement's hypotheses -/

theorem witness_IdleStepPassesOneTick : base.pending = [] ∧ base.time.tick < 100 := by decide

theorem witness_IdleStep_at_the_second : base.pending = [] ∧ ({ base with time := ⟨99, 0xFFFFFFFF, 0⟩ } : State).time.tick < 100 := by
  decide

theorem witness_ProfileIsChecked_header :
    State.reset.loader.state = .loading ∧ State.reset.loader.reading = .header ∧
      wordAt [0, 0, 0, 0, 0, 0] 0 ≠ 0x5A31 ∧ wordAt [0x5A, 0x31, 0, 0, 0, 0] 0 = 0x5A31 ∧
      wordAt [0x5A, 0x31, 0, 0, 0, 0] 2 ≠ 649 ∧ wordAt [0x5A, 0x31, 2, 0x89, 1, 2] 2 = 649 := by decide

/-- An image with one LAMP point, the rest UNUSED, and a station number as given. -/
def image (station : Byte) (kind : Byte) : List Byte :=
  [station, 1, 2, 0, 120, 0, 30, 24, 56] ++ [kind, 0, 3, 0, 0, 1, 0, 0, 0, 0] ++ List.replicate 630 0

/-- Where the CRC is right, the later checks decide. -/
theorem checks_after_crc (b : List Byte) :
    firstError (imageChecks (crc16 b) b) = firstError ((imageChecks 0 b).drop 1) := by
  simp [imageChecks, firstError]

/-- A CRC that is not the image's. -/
theorem other_crc (c : Word16) : c ≠ c + 1 := by
  intro h
  have h2 := congrArg BitVec.toNat h
  simp [BitVec.toNat_add] at h2
  omega

theorem witness_ProfileIsChecked_crc : (image 5 1).length = 649 := by decide +kernel

theorem witness_ProfileIsChecked_wrong_crc (b : List Byte) : ∃ crc, crc16 b ≠ crc := ⟨_, other_crc _⟩

theorem witness_ProfileIsChecked_station : (image 0 1).length = 649 ∧ stationOk (byteAt (image 0 1) 0) = false := by
  decide +kernel

theorem witness_ProfileIsChecked_range :
    stationOk (byteAt (image 250 9) 0) = true ∧
      firstError (imageChecks (crc16 (image 250 9)) (image 250 9)) = .range := by
  rw [checks_after_crc]
  decide +kernel

/-- An image with two given entries, the rest UNUSED. -/
def entryImage (window : Byte) (first second : List Byte) : List Byte :=
  [5, 1, 2, 0, window, 0, 30, 24, 56] ++ first ++ second ++ List.replicate 620 0

/-- What the checks after the CRC find of two entries. -/
def found (first second : List Byte) : ProfileError :=
  firstError ((imageChecks 0 (entryImage 60 first second)).drop 1)

/-- An UNUSED entry. -/
def unused : List Byte := List.replicate 10 0

theorem witness_ProfileIsChecked_settings :
    (entryImage 59 unused unused).length = 649 ∧
      firstError (imageChecks (crc16 (entryImage 59 unused unused)) (entryImage 59 unused unused)) = .range := by
  rw [checks_after_crc]
  decide +kernel

theorem witness_ProfileIsChecked_entries :
    [found [4, 0, 0, 0, 0, 1, 0, 0, 0, 0] unused, found [4, 0, 3, 0, 3, 1, 0, 0, 0, 0] unused,
      found [4, 0, 3, 0, 0, 1, 0, 0, 0, 0] [4, 0, 3, 0, 7, 1, 0, 0, 0, 0], found [1, 2, 0, 0, 0, 1, 0, 0, 0, 0] unused,
      found [1, 1, 255, 0, 0, 1, 0, 0, 0, 0] unused, found [5, 0, 0, 0, 0, 1, 0, 0, 0, 0] unused] =
    [.supplyNoGroup, .supplyOwnParent, .supplyDuplicate, .range, .none, .range] := by decide +kernel

theorem witness_ProfileIsChecked_ranges :
    [found [1, 0, 3, 0, 0, 0, 2, 0, 60, 15] unused, found [1, 0, 3, 0, 0, 0, 61, 0, 60, 15] unused,
      found [2, 0, 0, 0, 0, 0, 32, 14, 16, 100] unused, found [2, 0, 0, 0, 0, 0, 32, 14, 17, 100] unused,
      found [3, 0, 0, 0, 0, 0, 1, 44, 0, 0] unused, found [3, 0, 0, 0, 0, 0, 0, 9, 0, 0] unused,
      found [4, 0, 3, 0, 0, 0, 10, 30, 0, 0] unused, found [4, 0, 3, 0, 0, 0, 10, 31, 0, 0] unused] =
    [.none, .range, .none, .range, .none, .range, .none, .range] := by decide +kernel

theorem witness_GoodImageCompletesTheLoad :
    (image 250 1).length = 649 ∧ firstError (imageChecks (crc16 (image 250 1)) (image 250 1)) = .none := by
  rw [checks_after_crc]
  decide +kernel

/-- Settings by preset and by explicit values (R58, R188, R189). -/
theorem witness_GoodImage_settings :
    let b := entryImage 60 [1, 0, 3, 0, 0, 2, 0, 0, 0, 0] [4, 0, 7, 0, 3, 0, 9, 30, 0, 0]
    (readProfile b).point 1 = { kind := some .lamp, group := 3, parent := 0, set := 2, settings := .lamp 5 120 2 } ∧
      (readProfile b).point 2 = { kind := some .supply, group := 7, parent := 3, set := 0, settings := .supply 9 30 } ∧
      (readProfile b).point 64 = { kind := none, group := 0, parent := 0, set := 0, settings := .unused } := by
  decide +kernel

/-- A lamp monitor. -/
def lamp (current : Bool) (changedAt : Nat) (cycle : List Nat) : Monitor := .lamp ⟨current, changedAt, changedAt, cycle, []⟩

/-- The first point's monitor. -/
def withMonitor (p : Nat) (m : Monitor) (s : State) : State := { s with field := s.field.setMonitor p m }

theorem witness_LampOut_confirm :
    pointOk 1 = true ∧ (withMonitor 1 (lamp false 99000 []) base).field.monitor 1 = lamp false 99000 [] ∧
      (base.pointConfig 1).settings = .lamp 10 300 3 ∧ base.field.settleEnd = none ∧ base.field.duskOn = true ∧
      max 99000 base.field.settleEndedAt + 10 * 100 ≤ base.now := by decide

theorem witness_LampOut_clear :
    (withMonitor 1 (lamp true 99500 []) base).field.monitor 1 = lamp true 99500 [] ∧
      max 99500 base.field.settleEndedAt + 500 ≤ base.now := by decide

theorem witness_LampDayburn_confirm :
    let s := { base with field := { base.field with duskOn := false } }
    (withMonitor 1 (lamp true 70000 []) s).field.monitor 1 = lamp true 70000 [] ∧ s.field.duskOn = false ∧
      max 70000 s.field.settleEndedAt + 300 * 100 ≤ s.now := by decide

theorem witness_LampDayburn_clear :
    (withMonitor 1 (lamp false 99500 []) base).field.monitor 1 = lamp false 99500 [] ∧
      max 99500 base.field.settleEndedAt + 500 ≤ base.now := by decide

theorem witness_DuskChange : base.running = true ∧ base.field.duskOn ≠ false := by decide

theorem witness_DuskChange_sampled :
    base.field.duskSampledAt ≠ base.now ∧
      ({ base with field := { base.field with duskSampledAt := base.now } } : State).field.duskSampledAt = base.now := by
  decide

/-- Of two changes of dusk in one tick the second is not seen (R57, log 28). -/
theorem test_one_dusk_sample_in_a_tick :
    ((nextOf (exec (.duskChange false) base)).bind (fun t => nextOf (exec (.duskChange true) t))).map
      (fun t => (t.field.duskOn, t.field.duskChangedAt)) = some (false, some 100000) := by decide

/-- A loss of current that entered the cycle list has read the tick's dusk sample: dusk does not turn off in that tick (R57, R61). -/
theorem test_loss_reads_the_dusk_sample :
    let s := withMonitor 1 (lamp true 99000 []) base
    ((nextOf (exec (.lampCurrentChange 1 false) s)).bind (fun t => nextOf (exec (.duskChange false) t))).map
      (fun t => (t.field.duskOn, t.field.monitor 1)) =
        some (true, .lamp ⟨false, 100000, 100000, [100000], []⟩) := by decide

theorem witness_DuskSettleEnd :
    ({ base with field := { base.field with settleEnd := some 100000 } } : State).field.settleEnd = some 100000 ∧
      100000 ≤ base.now := by decide

theorem witness_LampCycling :
    let s := withMonitor 1 (lamp true 0 [10, 20, 30]) base
    s.field.monitor 1 = lamp true 0 [10, 20, 30] ∧ s.field.duskOn = true ∧ s.field.duskChangedAt ≠ some s.now ∧
      ([10, 20, 30] : List Nat).length = 3 := by decide

theorem witness_LampCycling_at_dusk :
    let s := { withMonitor 1 (lamp true 99000 []) base with field :=
      { (withMonitor 1 (lamp true 99000 []) base).field with duskChangedAt := some 100000 } }
    s.field.duskOn = true ∧ s.field.duskChangedAt = some s.now ∧
      (nextOf (exec (.lampCurrentChange 1 false) s)).map (fun t => t.field.monitor 1) =
        some (.lamp ⟨false, 100000, 100000, [], []⟩) := by decide

theorem witness_LampCycling_other_change :
    let s := withMonitor 1 (lamp false 99000 []) base
    s.field.monitor 1 = lamp false 99000 [] ∧ 99000 ≠ s.now ∧
      (withMonitor 1 (lamp true 100000 []) base).field.monitor 1 = .lamp ⟨true, s.now, s.now, [], []⟩ := by decide

theorem witness_LampCycling_expiry :
    let s := { withMonitor 1 (lamp true 0 [10, 20, 30]) base with time := ⟨10, 1800, 0⟩ }
    s.field.monitor 1 = lamp true 0 [10, 20, 30] ∧ (s.pointConfig 1).settings = .lamp 10 300 3 ∧
      10 + 180000 ≤ s.now := by decide

/-- A loop monitor with a baseline of 1,000. -/
def loop (gates : Nat) (last agreed : Option GateClass) (baseline : Option Nat) : LoopMonitor :=
  { gateStart := 99995, gateCount := 0, gates := gates, lastClass := last, agreed := agreed, agreedAt := 0, sum := 8000
    eligible := 8, baseline := baseline, reference := baseline, inRangeRun := 0, onsets := [], present := [] }

theorem witness_LoopGate :
    let m := loop 15 (some .occupied) (some .vacant) (some 1000)
    let s := withMonitor 2 (.loop m) base
    s.field.monitor 2 = .loop m ∧ (s.pointConfig 2).settings = .loop 4 300 40 ∧ m.gateStart + 5 ≤ s.now ∧
      m.gates < 16 ∧ min (m.gateCount + 70000) 65535 = 65535 ∧ 1000 + 1000 * 4 / 256 ≤ 1015 := by decide

theorem witness_LoopPeriod :
    let m := loop 16 none none (some 1000)
    (withMonitor 2 (.loop m) base).field.monitor 2 = .loop m ∧ m.gates = 16 ∧ 8 ≤ m.eligible ∧
      m.reference = some 1000 := by decide

theorem witness_LoopChatter :
    let m := { loop 3 none none none with onsets := List.replicate 41 94000 }
    (withMonitor 2 (.loop m) base).field.monitor 2 = .loop m ∧ m.onsets.length = 40 + 1 ∧ 94000 + 6000 ≤ base.now := by
  decide

/-- A sign monitor with a burst. -/
def sign (pulses gapStart : Nat) : SignMonitor := ⟨some ⟨pulses, gapStart⟩, none, some 97000, []⟩

theorem witness_SignPulse :
    (withMonitor 3 (.sign (sign 7 99980)) base).field.monitor 3 = .sign (sign 7 99980) ∧ base.now ≤ 99980 + 20 ∧
      99979 + 20 < base.now := by decide

theorem witness_SignBursts :
    (withMonitor 3 (.sign (sign 8 99980)) base).field.monitor 3 = .sign (sign 8 99980) ∧ 99980 + 20 ≤ base.now ∧
      (base.pointConfig 3).settings = .sign 30 ∧ 97000 + 30 * 100 ≤ base.now := by decide

theorem witness_SupplyLoss :
    let open' : SupplyMonitor := ⟨false, 99900, 99900, []⟩
    let shut : SupplyMonitor := ⟨true, 99800, 99800, []⟩
    (withMonitor 4 (.supply open') base).field.monitor 4 = .supply open' ∧
      (withMonitor 4 (.supply shut) base).field.monitor 4 = .supply shut ∧
      (base.pointConfig 4).settings = .supply 1 2 ∧ 99900 + 1 * 100 ≤ base.now ∧ 99800 + 2 * 100 ≤ base.now := by decide

theorem witness_SupplyLoss_sampled :
    let sampled : SupplyMonitor := ⟨false, 100000, 100000, []⟩
    (withMonitor 4 (.supply sampled) base).field.monitor 4 = .supply sampled ∧ sampled.sampledAt = base.now ∧
      (99900 : Nat) ≠ base.now := by decide

theorem witness_FieldCommands : (nextOf (exec (.signPulse 3) base)).isSome = true := by decide

theorem witness_ReportsOrdered :
    ([.lampOut, .lampDayburn] : List Condition).Pairwise (fun a b => a.code < b.code) ∧
      reportsOf 1 [.lampOut, .lampDayburn] [.lampCycling] =
        [⟨1, .lampCycling, true⟩, ⟨1, .lampOut, false⟩, ⟨1, .lampDayburn, false⟩] := by decide

theorem witness_ChangeOfAnOwnRecord : base.origin.slots.length = 65 ∧ 64 ≤ 64 := by decide

theorem witness_ChangeEntries :
    (∀ j ∈ [0, 4], base.urgent j = true) ∧ (∀ j ∈ [1, 2, 64], base.urgent j = false) := by decide

/-- A report of point 1 waits. -/
def reported (c : Condition) (raise : Bool) (s : State) : State :=
  { s with origin := { s.origin with reportsIn := [⟨1, c, raise⟩] } }

theorem witness_PointReports_empty :
    let s := reported .lampOut true base
    s.origin.reportsIn.find? (fun r => decide (r.point = 1)) = some ⟨1, .lampOut, true⟩ ∧
      (s.origin.slot 1).record = none ∧ wanted [.lampOut] = some .lampOut ∧
      (s.pointConfig 1).kind = some .lamp := by decide

theorem witness_PointReports_open :
    let s := reported .lampDayburn true (withSlot 1 (rec' 5 1 .lamp .lampCycling .opened 1) [.lampCycling] base)
    (s.origin.slot 1).record = some (rec' 5 1 .lamp .lampCycling .opened 1) ∧
      wanted (condJoin .lampDayburn (s.origin.slot 1).picture) = some .lampCycling ∧
      wanted (condJoin .lampOut (s.origin.slot 1).picture) = some .lampOut ∧
      wanted (condLeave .lampCycling (s.origin.slot 1).picture) = none := by decide

theorem witness_PointReports_flapping :
    let r := { rec' 5 1 .lamp .lampOut .opened 1 with flapping := true }
    let s := reported .lampOut false (withSlot 1 r [.lampOut] base)
    (s.origin.slot 1).record = some r ∧ r.flapping = true ∧ (s.origin.slot 1).picture ≠ [] ∧
      wanted (condLeave .lampOut (s.origin.slot 1).picture) = none := by decide

theorem witness_PointReports_cleared :
    let s := reported .lampOut true (withSlot 1 (rec' 5 1 .lamp .lampOut .cleared 255) [] base)
    (s.origin.slot 1).record = some (rec' 5 1 .lamp .lampOut .cleared 255) ∧
      wanted (condJoin .lampOut (s.origin.slot 1).picture) = some .lampOut ∧
      wanted (condLeave .lampOut (s.origin.slot 1).picture) = none := by decide

/-- A station report waits. -/
def stationReported (raise : Bool) (s : State) : State :=
  { s with origin := { s.origin with stationIn := [⟨.tableEngine, .tableFull, raise⟩] } }

theorem witness_StationReports_empty :
    let s := stationReported true base
    s.origin.stationIn.find? (fun r => decide (r.source = .tableEngine)) = some ⟨.tableEngine, .tableFull, true⟩ ∧
      (s.origin.slot 0).record = none ∧ condJoin .tableFull (s.origin.slot 0).picture ≠ [] := by decide

theorem witness_StationReports_open :
    let s := stationReported false (withSlot 0 (rec' 5 0 .station .tableFull .opened 1) [.tableFull] base)
    (s.origin.slot 0).record = some (rec' 5 0 .station .tableFull .opened 1) ∧
      condLeave .tableFull (s.origin.slot 0).picture = [] := by decide

theorem witness_StationReports_cleared :
    let s := stationReported true (withSlot 0 (rec' 5 0 .station .lineMute .cleared 1) [] base)
    (s.origin.slot 0).record = some (rec' 5 0 .station .lineMute .cleared 1) ∧
      condJoin .tableFull (s.origin.slot 0).picture ≠ [] := by decide

theorem witness_FlapLatchReleases :
    let r := { rec' 5 64 .lamp .lampOut .opened 1 with flapping := true }
    let s := { base with origin := base.origin.setSlot 64 { OwnSlot.start with record := some r, quietEnd := some 100000 } }
    (s.origin.slot 64).record = some r ∧ (s.origin.slot 64).picture = [] ∧
      (s.origin.slot 64).quietEnd = some 100000 ∧ 100000 ≤ s.now := by decide

theorem witness_OwnLingerEnd :
    let s := withSlot 0 (rec' 5 0 .station .lineMute .cleared 1) [] base
    slotOk 0 = true ∧ slotOk 64 = true ∧ s.origin.slots.length = 65 ∧
      (s.origin.slot 0).record = some (rec' 5 0 .station .lineMute .cleared 1) ∧ 880 + s.window ≤ s.nowSec := by decide

theorem witness_HoldSignals :
    ({ base with origin := { base.origin with holdIn := [.begun 3] } } : State).origin.holdIn = .begun 3 :: [] ∧
      ({ base with origin := { base.origin with holdIn := [.ended 511] } } : State).origin.holdIn = .ended 511 :: [] := by
  decide

theorem witness_HoldSignals_released :
    let s := withSlot 2 { rec' 5 2 .loop .loopOpen .opened 1 with group := 3 } [.loopOpen]
      (withSlot 1 (rec' 5 1 .lamp .lampOut .opened 1) [.lampOut] base)
    let u := { s with origin := { s.origin with held := [3], holdIn := [.ended 3], changeQueue := [3] } }
    (nextOf (exec .holdEndedSignal u)).map (fun t => (t.origin.changeQueue, t.origin.held)) = some ([3, 1, 2], []) ∧
      (u.pointConfig 1).kind ≠ some .supply ∧ (u.pointConfig 2).kind ≠ some .supply := by decide

/-- A hold's end wakes an idle transmitter in IN-STEP, and in MUTE leaves it IDLE (R136). -/
theorem witness_HoldSignals_wake :
    let s := { base with origin := { base.origin with holdIn := [.ended 3], changeQueue := [3] } }
    s.tx.state = .idle ∧ (nextOf (exec .holdEndedSignal s)).map (fun t => t.tx.state) = some .waiting ∧
      (nextOf (exec .holdEndedSignal (inState .mute s))).map (fun t => t.tx.state) = some .idle := by decide

theorem witness_OwnAckDecision :
    let s := { withSlot 1 (rec' 5 1 .lamp .lampOut .opened 4) [.lampOut] base with
      port := { base.port with service := .ownAck 5 1 4 } }
    s.port.service = .ownAck 5 1 4 ∧ s.loader.state = .inStep ∧ (inState .mute s).loader.state ≠ .inStep ∧
      (s.origin.slot 1).record = some (rec' 5 1 .lamp .lampOut .opened 4) ∧ (s.origin.slot 2).record = none := by decide

theorem witness_AcknowledgeAtOrigin :
    let s := { withSlot 1 (rec' 5 1 .lamp .lampOut .opened 4) [.lampOut] base with
      origin := { (withSlot 1 (rec' 5 1 .lamp .lampOut .opened 4) [.lampOut] base).origin with acksIn := [⟨9, 7, 1, 4⟩] } }
    s.origin.acksIn = ⟨9, 7, 1, 4⟩ :: [] ∧ s.origin.runTag = some 7 ∧
      (s.origin.slot 1).record = some (rec' 5 1 .lamp .lampOut .opened 4) ∧ (s.origin.slot 2).record = none := by decide

theorem witness_WalkStep :
    let s := { base with origin := { base.origin with stepDue := some 100000, pointer := 64 } }
    s.origin.stepDue = some 100000 ∧ 100000 ≤ s.now ∧ 0 = (s.origin.pointer + 1) % 65 := by decide

/-- A step that makes a send due wakes an idle transmitter in IN-STEP (R136); slot 64 is empty and makes none. -/
theorem witness_WalkStep_wake :
    let s := fun pointer => { base with origin := { base.origin with stepDue := some 100000, pointer := pointer } }
    (nextOf (exec .walkStep (s 64))).map (fun t => (t.tx.state, t.origin.refreshDue)) = some (.waiting, some 0) ∧
      (nextOf (exec .walkStep (s 63))).map (fun t => (t.tx.state, t.origin.refreshDue)) = some (.idle, none) := by decide

theorem witness_ViewState :
    let r := rec' 5 1 .lamp .lampOut .opened 4
    r.state = .opened ∧ r.holdGroup = some 3 ∧ ({ r with group := 0 } : Record).holdGroup = none ∧
      r.view [⟨3, .down 5⟩] = .held ∧ r.view [] = .active := by decide

theorem witness_Arbiter :
    base.claimsOpen = true ∧
      ({ base with origin := { base.origin with ownUpdates := [0] } } : State).nextClaim = some (.ownUpdate 0) ∧
      ({ base with port := { base.port with dump := .building .table .start } } : State).nextClaim =
        some (.page .table .start) ∧ base.nextClaim = none := by decide

theorem witness_Arbiter_closed :
    State.reset.claimsOpen = false ∧
      ({ base with loader := { base.loader with rejoin := some ⟨true, false⟩ } } : State).claimsOpen = false ∧
      ({ base with loader := { base.loader with rejoin := some ⟨false, true⟩ } } : State).claimsOpen = true := by decide

theorem witness_SilenceDeadline :
    let s := withPeer 250 .present none base
    stationOk 250 = true ∧ s.roster.find 250 = some ⟨250, .present, 100, 60, none, 4⟩ ∧ 100 + 3 * 60 ≤ s.nowSec := by decide

theorem witness_LingerDeadline :
    let r := rec' 9 0 .station .lineMute .cleared 1
    let s := withTable [r] [] base
    stationOk 9 = true ∧ slotOk 0 = true ∧ 9 ≠ s.own ∧ findRecord s.table.cft ⟨9, 0⟩ = some r ∧
      880 + s.roster.windowOf s.window 9 ≤ s.nowSec := by decide

/-- The waiting order at one deadline and between deadlines (R11). -/
theorem witness_TimerOrder :
    insertTimer (.linger 5 ⟨9, 1⟩) [.linger 4 ⟨250, 1⟩, .linger 5 ⟨9, 0⟩, .grace 5 3] =
        [.linger 4 ⟨250, 1⟩, .linger 5 ⟨9, 0⟩, .linger 5 ⟨9, 1⟩, .grace 5 3] ∧
      insertTimer (.grace 5 3) [.linger 5 ⟨9, 0⟩, .grace 5 2, .grace 5 4] =
        [.linger 5 ⟨9, 0⟩, .grace 5 2, .grace 5 3, .grace 5 4] ∧
      TimerClaim.grace 5 3 ∈ [TimerClaim.linger 4 ⟨9, 0⟩, .grace 5 3] := by decide

theorem witness_LingerDeadline_window :
    let r := rec' 9 0 .station .lineMute .cleared 1
    let s := withPeer 9 .silent none (withTable [r] [] base)
    s.roster.find 9 = some ⟨9, .silent, 100, 60, none, 4⟩ ∧ r.clearedAt = some 880 ∧ 880 + 60 ≤ s.nowSec ∧
      (withTable [r] [] base).roster.find 9 = none ∧ 880 + base.window ≤ base.nowSec := by decide

theorem witness_GraceDeadline :
    let s := withTable [] [⟨511, .returning 1000⟩] base
    groupOk 511 = true ∧ findEntry s.table.groups 511 = some ⟨511, .returning 1000⟩ ∧ 1000 ≤ s.nowSec := by decide

theorem witness_OwnUpdate :
    ({ base with origin := { base.origin with ownUpdates := [64] } } : State).nextClaim = some (.ownUpdate 64) := by
  decide

theorem witness_OwnUpdate_slots :
    (base.origin.slot 64).record = none ∧
      findRecord (withTable [rec' 5 64 .lamp .lampOut .cleared 1] [] base).table.cft ⟨base.own, 64⟩ =
        some (rec' 5 64 .lamp .lampOut .cleared 1) := by decide

/-- A work whose claim touched some groups and ended others. -/
def work (cft : List Record) (groups : List GroupEntry) (full : Bool) (touched ended : List Nat) : Work :=
  { Work.begin { base.table with cft := cft, groups := groups, groupTableFull := full } with
    touched := touched, ended := ended }

/-- An OPEN supply record of a group. -/
def loss (origin group : Nat) : Record := { rec' origin 1 .supply .supplyLoss .opened 1 with group := group }

/-- Entries for groups 101 and up. -/
def entries (n : Nat) : List GroupEntry := (List.range n).map (fun i => ⟨101 + i, .returning 5000⟩)

theorem witness_Close_groups :
    let c := (work [loss 8 1, loss 9 1] [⟨2, .down 9⟩, ⟨3, .returning 7⟩] false [1, 2, 3] []).close base
    c.te.groups = [⟨1, .down 8⟩, ⟨2, .returning 1030⟩, ⟨3, .returning 7⟩] ∧ c.signals = [.begun 1] ∧
      lowestSupervisor [loss 8 1, loss 9 1] 1 = some 8 ∧ lowestSupervisor [loss 8 1, loss 9 1] 2 = none := by
  decide +kernel

/-- The 129th entry is refused and GROUP-TABLE-FULL raised (R48). -/
theorem witness_Close_lacking :
    let w := work [loss 8 1] (entries 128) false [1] []
    (w.close base).te.groups = entries 128 ∧ (w.close base).te.groupTableFull = true ∧
      (w.close base).reports = [⟨.tableEngine, .groupTableFull, true⟩] ∧ lackingGroups (w.close base).te = [1] := by
  decide +kernel

/-- A removal while the flag is set lets the lowest lacking group in (R49), its end ahead of the beginning (R52). -/
theorem witness_Close_rescan :
    let w := work [loss 8 9, loss 9 1] (entries 127) true [] [1]
    (w.close base).te.groups = ⟨1, .down 9⟩ :: entries 127 ∧ (w.close base).signals = [.ended 1, .begun 1] ∧
      (w.close base).te.groupTableFull = true := by decide +kernel

/-- The flag clears at 120 entries with none lacking (R50), and not at 121. -/
theorem witness_Close_group_full_clears :
    ((work [] (entries 120) true [] []).close base).te.groupTableFull = false ∧
      ((work [] (entries 121) true [] []).close base).te.groupTableFull = true := by decide +kernel

theorem witness_Close_clash :
    let w := { work [loss 9 3] [⟨3, .down 9⟩] false [] [] with dirty := true }
    (w.close base).reports = [⟨.tableEngine, .groupClash, true⟩] ∧ 3 ∈ base.supervised ∧
      (({ w with dirty := false } : Work).close base).reports = [] := by decide +kernel

/-- The notices of a claim: a wiped and reinserted key, then the group it brought down (R28, R30, R46). -/
theorem witness_Close_notices :
    let r := loss 9 1
    let w := { work [r] [] false [1] [] with
      removed := [(⟨9, 1⟩, .recordRemoved (r.item []) .wipe)], changed := [⟨9, 1⟩], inserted := [⟨9, 1⟩] }
    w.changed.Pairwise (fun a b => a.lt b = true) ∧
      (w.close base).notices.map (·.report) = [.recordRemoved (r.item []) .wipe,
        .recordChanged (r.item [⟨1, .down 9⟩]), .group 1 .down (some 9) 0] := by decide +kernel

theorem witness_LingerExpiry :
    let r := rec' 9 1 .lamp .lampOut .cleared 1
    let s := { withTable [r] [] base with table :=
      { (withTable [r] [] base).table with timers := [.linger 1000 ⟨9, 1⟩] } }
    s.nextClaim = some (.timer (.linger 1000 ⟨9, 1⟩)) ∧ findRecord s.table.cft ⟨9, 1⟩ = some r ∧
      lingerDeadline s.window s.roster r = some 1000 ∧ 1000 ≤ s.nowSec := by decide

theorem witness_LingerExpiry_later :
    let r := { rec' 9 1 .lamp .lampOut .cleared 1 with clearedAt := some 881 }
    lingerDeadline base.window base.roster r = some 1001 ∧ base.nowSec < 1001 ∧
      (rec' 9 1 .lamp .lampOut .opened 1).kind ≠ .supply ∧ (loss 9 1).kind = .supply := by decide

theorem witness_GraceExpiry :
    let s := { withTable [] [⟨3, .returning 1000⟩] base with table :=
      { (withTable [] [⟨3, .returning 1000⟩] base).table with timers := [.grace 1000 3] } }
    s.nextClaim = some (.timer (.grace 1000 3)) ∧ findEntry s.table.groups 3 = some ⟨3, .returning 1000⟩ ∧
      lowestSupervisor s.table.cft 3 = none ∧ 1000 ≤ s.nowSec := by decide

theorem witness_GraceExpiry_later :
    findEntry (withTable [] [⟨3, .returning 1001⟩] base).table.groups 3 = some ⟨3, .returning 1001⟩ ∧
      base.nowSec < 1001 := by decide

theorem witness_RosterEvents :
    ({ base with roster := { base.roster with events := [⟨9, .silent⟩] } } : State).nextClaim =
        some (.event ⟨9, .silent⟩) ∧
      ({ base with roster := { base.roster with events := [⟨9, .present⟩] } } : State).nextClaim =
        some (.event ⟨9, .present⟩) := by decide

/-- A SILENT event turns the FRESH records of its station STALE and tells of them and of the station (R20, R28, R114). -/
theorem witness_RosterEvents_notices :
    let s := withTable [rec' 8 1 .lamp .lampOut .opened 1, rec' 9 1 .lamp .lampOut .opened 1,
      { rec' 9 2 .lamp .lampOut .opened 1 with freshness := .stale }] [] (withPeer 9 .silent none base)
    let u := { s with roster := { s.roster with events := [⟨9, .silent⟩] }, port := { s.port with watch := true } }
    (nextOf (exec .rosterEventSilent u)).map (fun t => t.port.reports) =
      some [.recordChanged (({ rec' 9 1 .lamp .lampOut .opened 1 with freshness := .stale } : Record).item []),
        .stationSilent 9 100 2] := by decide

/-- A RECORD body of point 1: a lamp of group 3 at a version. -/
def recordBody (version : Version) (st : OriginState) : List Byte :=
  writeRecord 0x1234 (rec' 9 1 .lamp .lampOut st version) false 100

theorem witness_RecordFrame_absent :
    let s := withFrame 9 .record (recordBody 4 .opened) base
    s.nextClaim = some (.frame ⟨9, .record, recordBody 4 .opened⟩) ∧
      (readRecord (recordBody 4 .opened)).isSome = true ∧ (readRecord (recordBody 4 .cleared)).isSome = true ∧
      findRecord s.table.cft ⟨9, 1⟩ = none ∧ peerCount s.own s.table.cft < 959 := by decide

theorem witness_RecordFrame_held :
    judgeVersion 127 0 = .newer ∧ judgeVersion 0 129 = .newer ∧ judgeVersion 128 0 = .older ∧
      judgeVersion 5 5 = .same ∧
      findRecord (withTable [rec' 9 1 .lamp .lampOut .opened 4] [] base).table.cft ⟨9, 1⟩ =
        some (rec' 9 1 .lamp .lampOut .opened 4) := by decide

theorem witness_RecordFrame_stale :
    let r := { rec' 9 1 .lamp .lampOut .opened 4 with freshness := .stale }
    let s := withFrame 9 .record (recordBody 4 .opened) (withTable [r] [] base)
    (s.table.cft.map (·.key)).Nodup ∧ findRecord s.table.cft ⟨9, 1⟩ = some r ∧ r.freshness = .stale := by decide

theorem witness_RecordFrame_wiped :
    let s := withPeer 9 .present (some 1) base
    (s.roster.find 9).bind (·.tag) = some 1 ∧ (1 : Word16) ≠ 0x1234 := by decide

/-- After a wipe the key is absent, and what the frame carries is inserted or moot (R117). -/
theorem witness_RecordFrame_wipes :
    let s := withTable [rec' 8 1 .lamp .lampOut .opened 1, rec' 9 1 .lamp .lampOut .opened 200,
      rec' 9 2 .lamp .lampOut .opened 1] []
      (withPeer 9 .present (some 1) (withFrame 9 .record (recordBody 4 .opened) base))
    (s.table.cft.map (·.key)).Nodup ∧
      (nextOf (exec .recordFrame s)).map (fun t => (t.table.cft.map (·.key), (t.roster.find 9).bind (·.tag))) =
        some ([⟨8, 1⟩, ⟨9, 1⟩], some 0x1234) := by decide

/-- 959 peer records, all but the first OPEN. -/
def fullCft : List Record :=
  (List.range 959).map (fun i => { rec' (10 + i / 64) (1 + i % 64) .lamp .lampOut .opened 1 with lastHeard := some i })

theorem fullCft_nodup : (fullCft.map (·.key)).Nodup := by
  simp only [fullCft, List.map_map]
  refine List.Nodup.map ?_ List.nodup_range
  intro a b h
  simp [rec'] at h
  omega

/-- TABLE-FULL clears at 927 peer records, and not at 928 (R24). -/
theorem witness_Close_table_full_clears :
    let full := fun n => { Work.begin { base.table with cft := fullCft.take n, tableFull := true } with dirty := false }
    ((full 927).close base).te.tableFull = false ∧ ((full 928).close base).te.tableFull = true := by decide +kernel

theorem witness_FullTable_evicts :
    let s := withTable (fullCft.map (fun r => { r with freshness := .stale })) []
      (withFrame 9 .record (recordBody 4 .opened) base)
    peerCount s.own s.table.cft = 959 ∧ findRecord s.table.cft ⟨9, 1⟩ = none ∧
      (evictionChoice s.own s.table 2).map (·.key) = some ⟨10, 1⟩ := by decide +kernel

theorem witness_FullTable_refuses :
    let s := withTable fullCft [] (withFrame 9 .record (recordBody 4 .opened) base)
    peerCount s.own s.table.cft = 959 ∧ findRecord s.table.cft ⟨9, 1⟩ = none ∧
      evictionChoice s.own s.table 2 = none := by decide +kernel

theorem witness_EvictionOrder :
    let held := { rec' 9 1 .lamp .signOther .opened 1 with lastHeard := some 5 }
    evictionChoice 5 { base.table with cft := [held], groups := [⟨3, .down 9⟩] } 2 = some held ∧
      evictionChoice 5 { base.table with cft := [held] } 2 = some held ∧
      evictionChoice 5 { base.table with cft := [held] } 1 = none := by decide

theorem witness_EvictionOrder_steps :
    let gone := rec' 9 1 .lamp .lampOut .cleared 1
    let stale := { rec' 9 2 .lamp .lampOut .opened 1 with freshness := .stale }
    let own := rec' 5 1 .lamp .lampOut .cleared 1
    evictionChoice 5 { base.table with cft := [own, gone, stale] } 1 = some gone ∧
      evictionChoice 5 { base.table with cft := [own, stale] } 1 = some stale ∧
      evictionChoice 5 { base.table with cft := [own] } 4 = none := by decide

/-- At equal times the lowest key goes (R21). -/
theorem witness_EvictionOrder_tie :
    let old := fun o => { rec' o 1 .lamp .lampOut .opened 1 with freshness := .stale, lastHeard := some 7 }
    evictionChoice 5 { base.table with cft := [old 8, old 9] } 1 = some (old 8) ∧
      ([old 8, old 9].map (·.key)).Pairwise (fun a b => a.lt b = true) := by decide

/-- A full table after a wipe: a sender with no record held, and a different tag. -/
theorem witness_FullTable_wiped :
    let s := withPeer 9 .present (some 1) (withTable fullCft [] (withFrame 9 .record (recordBody 4 .opened) base))
    (s.roster.find 9).bind (·.tag) = some 1 ∧ s.table.cft.filter (fun r => decide (r.key.origin = 9)) = [] := by
  decide +kernel

/-- A ROLL body with the open set of points 1 and 64, and a station part or none. -/
def rollBody (part : Bool) : List Byte :=
  writeRoll 0x1234 60 [1, 64] (if part then some (rec' 9 0 .station .lineMute .opened 3, 7) else none)

theorem witness_Roll :
    let s := withTable [rec' 9 0 .station .lineMute .opened 1, rec' 9 1 .lamp .lampOut .opened 4,
      rec' 9 2 .lamp .lampOut .opened 4] [] (withFrame 9 .roll (rollBody false) base)
    s.nextClaim = some (.frame ⟨9, .roll, rollBody false⟩) ∧
      (readRoll (rollBody false)).map (fun f => (f.openSet, f.part)) = some ([1, 64], none) ∧
      (s.table.cft.map (·.key)).Nodup ∧ peerCount s.own s.table.cft < 959 ∧
      (∀ old, (s.roster.find 9).bind (·.tag) = some old → old = 0x1234#16) := by
  refine ⟨by decide, by decide +kernel, by decide +kernel, by decide +kernel, ?_⟩
  intro old h
  simp [withTable, withFrame, base, RosterUnit.find, State.reset, RosterUnit.start] at h

theorem witness_StationPart :
    (readRoll (rollBody true)).map (fun f => f.part.isSome) = some true ∧
      findRecord (withTable [rec' 9 0 .station .lineMute .opened 1] [] base).table.cft ⟨9, 0⟩ =
        some (rec' 9 0 .station .lineMute .opened 1) ∧ judgeVersion 3 1 = .newer := by decide

/-- A ROLL that wipes, sweeps, re-times and silences at once (R113, R117, R122, R123). -/
theorem witness_Roll_wiped :
    let s := withTable [rec' 8 1 .lamp .lampOut .opened 1, rec' 9 0 .station .lineMute .opened 1,
      rec' 9 2 .lamp .lampOut .opened 4] [] (withFrame 9 .roll (rollBody true) base)
    let u := { s with roster := { s.roster with entries := [⟨9, .present, 100, 120, some 1, 4⟩] } }
    (u.roster.find 9).bind (·.tag) = some 1 ∧ (u.table.cft.map (·.key)).Nodup ∧
      (nextOf (exec .rollFrame u)).map (fun t => (t.table.cft.map (·.key), t.roster.events)) =
        some ([⟨8, 1⟩, ⟨9, 0⟩], [⟨9, .silent⟩]) ∧
      (nextOf (exec .rollFrame u)).bind (fun t => t.roster.find 9) = some ⟨9, .silent, 100, 60, some 0x1234, 4⟩ := by decide +kernel

theorem witness_Roll_retimes :
    let s := withTable [rec' 9 1 .lamp .lampOut .cleared 1, rec' 9 2 .lamp .lampOut .opened 4] []
      (withFrame 9 .roll (rollBody false) base)
    let u := { s with
      roster := { s.roster with entries := [⟨9, .present, 1000, 0, some 0x1234, 4⟩], events := [] }
      port := { s.port with watch := true } }
    (nextOf (exec .rollFrame u)).map (fun t => (t.table.timers, t.table.cft.map (·.key), t.port.reports.length)) =
      some ([.linger 940 ⟨9, 1⟩], [⟨9, 1⟩], 1) ∧ (u.table.cft.map (·.key)).Nodup := by decide +kernel

theorem witness_Roll_full :
    (readRoll (rollBody true)).map (fun f => f.part.map (fun a => (a.state, severityOf a.conds))) =
        some (some (.opened, 3)) ∧ peerCount 5 fullCft = 959 ∧
      findRecord fullCft ⟨9, 0⟩ = none := by decide +kernel

/-- An ACKNOWLEDGE body. -/
def ackBody (origin : Nat) : List Byte := writeAcknowledge ⟨origin, 64, 4, 7⟩

theorem witness_Acknowledge :
    (withFrame 9 .acknowledge (ackBody 5) base).nextClaim = some (.frame ⟨9, .acknowledge, ackBody 5⟩) ∧
      readAcknowledge (ackBody 5) = some ⟨7, 5, 64, 4⟩ ∧ readAcknowledge (ackBody 251) = none ∧
      (withFrame 9 .record [] base).nextClaim = some (.frame ⟨9, .record, []⟩) ∧ readRecord [] = none ∧
      readRoll [] = none := by decide

theorem witness_PageBuild :
    let s := { base with port := { base.port with dump := .building .roster (.station 249), service := .pageBuild } }
    s.nextClaim = some (.page .roster (.station 249)) ∧ (s.pageItems .roster (.station 249)).count = 0 := by decide

theorem witness_PageBuild_full :
    let s := withTable (fullCft.take 8) [] { base with
      port := { base.port with dump := .building .table .start, service := .pageBuild } }
    s.nextClaim = some (.page .table .start) ∧ (s.pageItems .table .start).count = 8 := by decide +kernel

/-- A page begins strictly after its cursor (R176). -/
theorem witness_PageBuild_after :
    let s := withTable [rec' 9 1 .lamp .lampOut .opened 1, rec' 9 2 .lamp .lampOut .opened 1] [⟨3, .down 9⟩, ⟨4, .down 9⟩] base
    (s.pageItems .table (.record ⟨9, 1⟩)).cursor (.record ⟨9, 1⟩) = .record ⟨9, 2⟩ ∧
      (s.pageItems .groups (.group 3)).count = 1 ∧ (s.pageItems .table .start).count = 2 ∧
      (s.pageItems .table (.record ⟨9, 2⟩)).cursor (.record ⟨9, 2⟩) = .record ⟨9, 2⟩ := by decide

theorem witness_LineCharacter :
    base.running = true ∧ base.tx.state.isSending = false ∧ base.rx.run = none ∧
      ({ base with rx := { base.rx with clock := 400, run := some ⟨[1], false, 100, false⟩ } } : State).rx.run =
        some ⟨[1], false, 100, false⟩ ∧ 400 + 20 ≤ 100 + 320 ∧ 100 + 320 < 400 + 21 := by decide

/-- The run of an ACKNOWLEDGE from a station. -/
def ackRun (n : Nat) : List Byte := frameChars n .acknowledge (ackBody 5)

theorem witness_RunsAreJudged :
    judgeRun false (ackRun 9) = .valid ⟨9, .acknowledge, ackBody 5⟩ ∧ judgeRun true (ackRun 9) = .bad ∧
      judgeRun false ((ackRun 9).drop 1) = .bad ∧ judgeRun false (ackRun 251) = .bad := by decide +kernel

theorem witness_RunOfUnknownKind :
    let covered : List Byte := [9, 4, 0]
    judgeRun false (0xC5 :: covered ++ byte2 (crc16 covered).toNat) = .unknownKind := by decide +kernel

theorem witness_ClosedRun :
    let s := { base with rx := { base.rx with run := some ⟨ackRun 9, false, 0, false⟩ } }
    s.running = true ∧ s.rx.run = some ⟨ackRun 9, false, 0, false⟩ ∧ 0 + 320 ≤ s.rx.clock + 320 ∧
      judgeRun false (ackRun 5) = .valid ⟨5, .acknowledge, ackBody 5⟩ ∧ s.own = 5 := by decide +kernel

theorem witness_ClosedRun_echo :
    let s := { base with rx := { base.rx with clock := 320, run := some ⟨[0xC5], false, 0, true⟩ } }
    s.tx.state.isSending = false ∧ (nextOf (exec (.runClose 0) s)).map (fun t => (t.rx.run, t.rx.badFrames)) =
      some (none, 0) := by decide

theorem witness_PeerFrames :
    (⟨9, .record, writeRecord 1 (rec' 9 1 .lamp .lampOut .opened 4) true 0⟩ : PeerFrame).repeats = true ∧
      (⟨9, .roll, rollBody false⟩ : PeerFrame).repeats = true ∧ (⟨9, .roll, rollBody true⟩ : PeerFrame).repeats = false ∧
      base.rx.queue.length < 32 ∧ base.shedThreshold = 24 ∧ base.roster.find 9 = none ∧
      (withPeer 9 .silent none base).roster.find 9 = some ⟨9, .silent, 100, 60, none, 4⟩ := by decide

/-- A transmitter waiting with a change queued. -/
def waiting : State :=
  { withSlot 1 (rec' 5 1 .lamp .lampOut .opened 4) [.lampOut] base with
    tx := { base.tx with state := .waiting }
    origin := { (withSlot 1 (rec' 5 1 .lamp .lampOut .opened 4) [.lampOut] base).origin with changeQueue := [1] } }

theorem witness_AccessMoment :
    waiting.tx.state = .waiting ∧ waiting.rx.run = none ∧ (waiting.buildFrame (.change 1)).isSome = true ∧
      waiting.origin.changeQueue.find? waiting.urgent = none ∧
      waiting.origin.changeQueue.find? (fun k => !waiting.urgent k) = some 1 ∧
      (4 + (waiting.own + waiting.tx.turn.toNat) % 16 + (waiting.tx.current.map (·.backoff)).getD 0) * 160 = 1440 ∧
      waiting.rx.lastHeard + 1440 ≤ waiting.rx.clock + 1440 ∧ waiting.rx.clock + 1439 < waiting.rx.lastHeard + 1440 := by
  decide

theorem witness_AccessMoment_retry :
    let s := { waiting with tx := { waiting.tx with current := some ⟨.change 1, 1, 16⟩ } }
    s.tx.current = some ⟨.change 1, 1, 16⟩ ∧ (s.buildFrame (.change 1)).isSome = true := by decide

theorem witness_AccessMoment_gone :
    let s := { waiting with tx := { waiting.tx with current := some ⟨.change 2, 1, 16⟩ } }
    s.tx.current = some ⟨.change 2, 1, 16⟩ ∧ s.buildFrame (.change 2) = none := by decide

theorem witness_AccessMoment_nothing :
    let s := { base with tx := { base.tx with state := .waiting } }
    s.tx.current = none ∧ s.origin.changeQueue = [] ∧ s.origin.ackSlot = none ∧ s.origin.refreshDue = none ∧
      (nextOf (exec (.accessMoment 1440) s)).map (fun t => t.tx.state) = some .idle := by decide

/-- Ahead of its end, the last character of a failed attempt keeps the line (R143, log 29). -/
theorem witness_AccessMoment_output :
    let s := { waiting with tx := { waiting.tx with outEnd := some 1441 } }
    (∃ e, s.tx.outEnd = some e ∧ 1440 < e) ∧
      (nextOf (exec (.accessMoment 1440) s)).map (fun t => t.tx.state) = some .waiting ∧
      (nextOf (exec (.accessMoment 1441) s)).map (fun t => t.tx.state.isSending) = some true := by decide

theorem witness_BuildFrame :
    base.origin.runTag = some 7 ∧ (waiting.origin.slot 1).record = some (rec' 5 1 .lamp .lampOut .opened 4) ∧
      (waiting.origin.slot 0).record = none ∧ waiting.origin.openSet = [1] ∧
      (base.buildFrame .ack).isNone = true := by decide

theorem witness_EchoDecides :
    let s := sending 0 base
    s.running = true ∧ s.rx.run = none ∧ ([0xC5, 5, 1] : List Byte)[0]? = some 0xC5 ∧
      s.rx.clock + 480 ≤ 0 + (0 + 1) * 160 + 320 ∧ 0 + (0 + 1) * 160 + 320 < s.rx.clock + 481 := by decide

theorem witness_EchoRunCloses :
    let s := { sending 3 base with rx := { base.rx with run := some ⟨[0xC5, 5, 1], false, 480, true⟩ } }
    s.tx.state = .sending ⟨[0xC5, 5, 1], 0, .record 1 4, 3⟩ ∧ s.rx.run = some ⟨[0xC5, 5, 1], false, 480, true⟩ ∧
      480 + 320 ≤ s.rx.clock + 800 := by decide

/-- An echo of the right bits whose stop bit is not found fails the attempt (log 32). -/
theorem witness_EchoDecides_stop :
    (nextOf (exec (.lineCharacterHeard 0xC5 true 160) (sending 0 base))).map (fun t => t.tx.state.isSending) = some true ∧
      (nextOf (exec (.lineCharacterHeard 0xC5 false 160) (sending 0 base))).map
        (fun t => (t.tx.state.isSending, t.tx.collisions)) = some (false, 1) := by decide

/-- A character that begins a run after the time for the echo is no echo: the attempt has failed, and a peer frame there is a peer's (R133, R143, log 3). -/
theorem witness_EchoOverdue :
    let s := sending 0 base
    s.rx.run = none ∧ 0 < ([0xC5, 5, 1] : List Byte).length ∧
      (nextOf (exec (.lineCharacterHeard 0xC5 true 481) s)).map (fun t => (t.tx.state.isSending, t.tx.outEnd, t.rx.run)) =
        some (false, some 480, some ⟨[0xC5], false, 481, false⟩) := by decide

theorem witness_EchoLate :
    let s := { sending 1 base with rx := { base.rx with run := some ⟨[0xC5], false, 480, true⟩ } }
    480 + 161 ≤ 480 + 320 ∧ 0 + (1 + 1) * 160 + 320 < s.rx.clock + 641 ∧ 0 + (1 + 1) * 160 + 320 ≤ s.rx.clock + 640 ∧
      s.rx.clock + 639 < 0 + (1 + 1) * 160 + 320 := by decide

theorem witness_FailedAttempt :
    let s := { waiting with tx := { waiting.tx with current := some ⟨.change 1, 6, 0⟩, failures := 14 } }
    s.tx.current = some ⟨.change 1, 6, 0⟩ ∧ s.loader.rejoin = none ∧ min (s.tx.failures + 1) 16 = 15 ∧
      s.itemStands (.change 1) = true ∧ 6 + 1 < 8 ∧ 8 ≤ 7 + 1 ∧ min (15 + 1) 16 = 16 := by decide

/-- The ack slot's send set aside at entry to MUTE: the slot stays full, and no ACK-UNSENT is made (R148). -/
theorem witness_FailedAttempt_mute :
    let s := { sending 0 base with
      tx := { (sending 0 base).tx with current := some ⟨.ack, 0, 0⟩, failures := 15 }
      origin := { base.origin with ackSlot := some ⟨9, 1, 4, 3⟩ } }
    min (s.tx.failures + 1) 16 = 16 ∧ s.loader.rejoin = none ∧ s.attemptFail.loader.state = .mute ∧
      s.attemptFail.origin.ackSlot = some ⟨9, 1, 4, 3⟩ ∧ s.attemptFail.port = s.port := by decide

theorem witness_FailedAttempt_gone :
    let s := { waiting with tx := { waiting.tx with current := some ⟨.change 2, 0, 0⟩ } }
    s.itemStands (.change 2) = false ∧ s.itemStands (.refresh 0) = true ∧ s.itemStands .ack = false := by decide

theorem witness_FailedAttempt_rejoin :
    let s := { sending 0 base with loader := { base.loader with rejoin := some ⟨false, false⟩ } }
    s.tx.current = some ⟨.change 1, 0, 0⟩ ∧ s.loader.rejoin ≠ none ∧
      s.attemptFail.tx.failures = 1 ∧ s.attemptFail.tx.outEnd = some 160 := by decide

/-- The character being put out at the failure is finished: the second of three at 160, the last at any later time (R143). -/
theorem witness_FailedAttempt_output :
    let at' := fun clock => { sending 0 base with rx := { base.rx with clock := clock } }
    (at' 159).attemptFail.tx.outEnd = some 160 ∧ (at' 160).attemptFail.tx.outEnd = some 320 ∧
      (at' 5000).attemptFail.tx.outEnd = some 480 := by decide

/-- A refresh send of slot 0 whose slot is empty at the failure is tried again (log 20). -/
theorem witness_FailedAttempt_slot0 :
    let s := { sending 0 base with tx := { (sending 0 base).tx with current := some ⟨.refresh 0, 0, 0⟩ } }
    (s.origin.slot 0).record = none ∧ s.attemptFail.tx.state = .waiting ∧
      s.attemptFail.tx.current.map (·.item) = some (.refresh 0) := ⟨by decide, by decide, rfl⟩

theorem witness_SuccessfulAttempt :
    waiting.origin.slots.length = 65 ∧
      (waiting.origin.slot 1).record = some (rec' 5 1 .lamp .lampOut .opened 4) ∧
      (waiting.origin.slot 0).record = none ∧ (waiting.origin.slot 0).version = 0 := by decide

theorem witness_LineTimers :
    let s := { inState .mute base with
      tx := { base.tx with muteEnd := some 100000, clearEnd := some 100000 }
      rx := { base.rx with clashEnd := some 100000 } }
    100000 ≤ s.now ∧ s.rx.clashEnd = some 100000 ∧ s.tx.clearEnd = some 100000 ∧ s.tx.muteEnd = some 100000 ∧
      s.loader.state = .mute ∧ s.tx.state = .idle := by decide

theorem witness_Requests :
    let s := { base with port := { base.port with
      assembler := .gathering [6] false 99990, finished := [.status], requests := List.replicate 8 .next } }
    s.port.assembler = .gathering [6] false 99990 ∧ s.now ≤ 99990 + 10 ∧ 99990 + 10 ≤ s.now ∧ 99989 + 10 < s.now ∧
      s.port.finished = .status :: [] ∧ 8 ≤ s.port.requests.length ∧ base.port.requests.length < 8 ∧
      base.port.assembler = .idle := by decide

theorem witness_RequestsJudged :
    [judgeRequest false [2, 3, 1, 31, 15, 204], judgeRequest false [2, 3, 5, 0, 0, 246], judgeRequest false [2, 3, 4, 32, 0, 215],
      judgeRequest false [2, 3, 4, 0, 16, 231], judgeRequest false [3, 1, 3, 249], judgeRequest false [3, 1, 4, 248],
      judgeRequest false [8, 0, 248], judgeRequest false [1, 0, 255], judgeRequest true [1, 0, 255]] =
    [.view ⟨1, [.lamp, .loop, .sign, .supply, .station], true, true, true⟩ true, .malformed 2, .malformed 2, .malformed 2,
      .dump .groups, .malformed 3, .malformed 8, .status, .malformed 1] := by decide

theorem witness_RequestsIgnored :
    ({ base with port := { base.port with assembler := .ignoring 99990 } } : State).port.assembler = .ignoring 99990 := by
  decide

theorem witness_RequestsAnswered :
    let s := withRequest .status base
    s.port.service = .free ∧ s.port.requests = .status :: [] ∧ s.loader.state ≠ .loading ∧
      s.port.dumpEndWaiting = false ∧ s.port.reports.length + 2 ≤ 64 ∧ s.port.dump = .none ∧
      (inState .halted s).loader.state = .halted := by decide

/-- With one place free DUMP waits and STATUS is answered (R168). -/
theorem witness_RequestsAnswered_one_place :
    let s := { withRequest (.dump .table) base with port := { (withRequest (.dump .table) base).port with
      reports := List.replicate 63 .resync } }
    64 < s.port.reports.length + 2 ∧ s.port.reports.length + 1 ≤ 64 ∧
      (nextOf (exec .dump s)).map (fun t => t.port.requests) = some [.dump .table] := by decide

theorem witness_RequestsAnswered_waits :
    let s := withRequest .status base
    ({ s with port := { s.port with dumpEndWaiting := true } } : State).port.dumpEndWaiting = true ∧
      ({ s with port := { s.port with service := .pageBuild } } : State).port.service ≠ .free ∧
      State.reset.loader.state = .loading ∧ State.reset.port.requests = [] := by decide

theorem witness_DumpRequests :
    let s := { withRequest .next base with port := { (withRequest .next base).port with
      dump := .opened .groups (.group 3) (some 100000) } }
    s.port.requests = .next :: [] ∧ s.loader.state ≠ .halted ∧ s.port.dump ≠ .none ∧
      s.port.dump = .opened .groups (.group 3) (some 100000) := by decide

theorem witness_Acks_peer :
    let s := withPeer 9 .present (some 3) (withTable [rec' 9 1 .lamp .lampOut .opened 4] [] (withRequest (.ack 9 1 4) base))
    s.port.requests = .ack 9 1 4 :: [] ∧ findRecord s.table.cft ⟨9, 1⟩ = some (rec' 9 1 .lamp .lampOut .opened 4) ∧
      9 ≠ s.own ∧ s.roster.find 9 = some ⟨9, .present, 100, 60, some 3, 4⟩ ∧ s.origin.ackSlot = none ∧
      (inState .mute s).loader.state = .mute := by decide

/-- An ACK put in the ack slot wakes an idle transmitter in IN-STEP (R136). -/
theorem witness_Acks_wake :
    let s := withPeer 9 .present (some 3) (withTable [rec' 9 1 .lamp .lampOut .opened 4] [] (withRequest (.ack 9 1 4) base))
    (nextOf (exec .ack s)).map (fun t => (t.origin.ackSlot, t.tx.state)) = some (some ⟨9, 1, 4, 3⟩, .waiting) := by decide

theorem witness_Acks_own :
    let s := withTable [rec' 5 1 .lamp .lampOut .opened 4] [] (withRequest (.ack 5 1 4) base)
    s.loader.state = .inStep ∧ 5 = s.own ∧
      findRecord s.table.cft ⟨5, 1⟩ = some (rec' 5 1 .lamp .lampOut .opened 4) := by decide

/-- A REJOIN in progress. -/
def rejoining (tx table : Bool) : State :=
  { base with
    loader := { base.loader with rejoin := some ⟨tx, table⟩ }
    port := { base.port with service := .rejoin } }

theorem witness_Rejoin :
    (withRequest .rejoin base).port.requests = .rejoin :: [] ∧ (withRequest .rejoin base).port.service = .free ∧
      (rejoining false true).loader.rejoin = some ⟨false, true⟩ ∧ (rejoining false true).tx.state.isSending = false ∧
      (rejoining false true).rx.run = none ∧ (rejoining true true).loader.rejoin = some ⟨true, true⟩ := by decide

/-- REJOIN-OK waits for the clears of the conditions and for slot 0's own update (R183, log 30). -/
theorem witness_Rejoin_waits :
    let s := rejoining true true
    let u := { s with origin := { s.origin with stationIn := [⟨.tableEngine, .tableFull, false⟩] } }
    let v := { s with origin := { s.origin with ownUpdates := [0] } }
    (nextOf (exec .rejoinComplete u)).map (fun t => t.port.service) = some .rejoin ∧
      (nextOf (exec .rejoinComplete v)).map (fun t => t.port.service) = some .rejoin ∧
      (nextOf (exec .rejoinComplete s)).map (fun t => t.port.service) = some .free := by decide

theorem witness_Rejoin_quiet :
    let s := rejoining false true
    ¬(∀ e, ({ s with tx := { s.tx with outEnd := some 160 } } : State).tx.outEnd = some e → e ≤ s.rx.clock) ∧
      (∀ e, s.tx.outEnd = some e → e ≤ s.rx.clock) := by
  refine ⟨fun h => absurd (h 160 rfl) (by decide), fun e h => by cases h⟩

/-- A frame queued after the emptying is taken once the station is in LISTENING (R110, log 31). -/
theorem witness_Rejoin_frame_waits :
    let s := withFrame 9 .record (recordBody 4 .opened) (rejoining true true)
    s.claimsOpen = true ∧ s.nextClaim = none ∧
      (nextOf (exec .rejoinComplete s)).bind (·.nextClaim) = some (.frame ⟨9, .record, recordBody 4 .opened⟩) := by decide

theorem witness_RejoinTables :
    let s := withTable [rec' 5 4 .supply .supplyLoss .cleared 1] [⟨3, .down 9⟩, ⟨7, .down 9⟩] (rejoining true false)
    s.loader.rejoin = some ⟨true, false⟩ ∧
      (nextOf (exec .tableEngineRejoinPart s)).map (fun t => t.table.groups) = some [⟨3, .returning 1030⟩] := by decide

/-- The waiting expiry of a grace that stays in force waits on; a peer's linger and the grace of an entry removed go (R31, R55). -/
theorem witness_RejoinTables_timers :
    let s := withTable [rec' 5 4 .supply .supplyLoss .cleared 1] [⟨3, .returning 990⟩, ⟨7, .returning 995⟩]
      (rejoining true false)
    let u := { s with table := { s.table with
      timers := [.linger 980 ⟨9, 1⟩, .grace 990 3, .grace 995 7], refusedInserts := 4, evictions := 3, old := 2, moot := 1 } }
    (nextOf (exec .tableEngineRejoinPart u)).map (fun t =>
      (t.table.timers, t.origin.holdIn, [t.table.refusedInserts, t.table.evictions, t.table.old, t.table.moot])) =
        some ([.grace 990 3], [.ended 7], [4, 3, 2, 1]) := by decide

theorem witness_ListeningEnds :
    let s := { inState .listening base with loader :=
      { (inState .listening base).loader with listenEnd := some 100000 } }
    s.loader.state = .listening ∧ s.loader.listenEnd = some 100000 ∧ 100000 ≤ s.now ∧ s.tx.state = .idle := by decide

theorem witness_Reports :
    let s := { base with port := { base.port with reports := [.viewOk], sent := 4 } }
    s.port.reports = .viewOk :: [] ∧ Report.viewOk.chars[3]? = some 0x7E ∧ s.port.sent = Report.viewOk.chars.length := by
  decide

/-- The characters of a GROUP notice, written out from R209. -/
theorem witness_Reports_group :
    (Report.group 300 .down (some 9) 2).chars = [0xF0, 0xC3, 6, 1, 44, 1, 9, 0, 2, 0xFE] := by decide

/-- The characters of a roster page of one station, written out from R209. -/
theorem witness_Reports_roster :
    (Report.page (.roster [⟨9, .silent, 258, 60, none, 4⟩])).chars =
      [0xF0, 0x83, 17, 2, 1, 9, 2, 0, 0, 0, 0, 0, 1, 2, 0, 60, 0, 0, 0, 4, 0x1B] := by decide

theorem witness_DumpIdle :
    let s := { base with port := { base.port with dump := .opened .table .start (some 100000) } }
    s.port.dump = .opened .table .start (some 100000) ∧ 100000 ≤ s.now ∧
      s.port.reports.length + s.port.keptPlaces < 64 ∧
      64 ≤ (List.replicate 64 Report.resync).length + s.port.keptPlaces := by decide

theorem witness_Gate :
    let p := { base.port with watch := true }
    p.watch = true ∧ p.filter.wants ⟨.group 3 .down (some 5) 1, none⟩ = true ∧ p.reports.length < p.limit ∧
      p.limit ≤ (List.replicate 56 Report.resync).length ∧ base.port.watch = false := by decide

theorem witness_Gate_others :
    let f : ViewFilter := ⟨4, [], false, false, false⟩
    (f.wants ⟨.group 3 .up none 0, none⟩ && f.wants ⟨.stationSilent 9 0 0, none⟩ && f.wants ⟨.stationBack 9 0, none⟩ &&
      f.wants ⟨.ackUnsent 9 1 4, none⟩) = true ∧
      f.wants ⟨.recordRemoved ((rec' 9 1 .lamp .lampOut .opened 1).item []) .sweep, none⟩ = false := by decide

theorem test_reset_loader_port_quiet : LoaderSafe State.reset ∧ PortSafe State.reset := ⟨by decide, by decide +kernel⟩

theorem witness_Safe_loader : LoaderSafe base ∧ PortSafe base := ⟨by decide, by decide +kernel⟩

theorem witness_Safe_origin : OriginSafe base := by decide

theorem witness_Safe_tables : TableSafe base ∧ GroupsMatch base := ⟨by decide, by decide +kernel⟩

theorem witness_Safe_line : RosterSafe base ∧ LineSafe base := ⟨by decide, by decide +kernel⟩

theorem witness_Safe_time : QuietSafe base ∧ TimeSafe base := ⟨by decide, by decide +kernel⟩

theorem witness_Safe : Safe base ∧ ∃ t, step base = .next t :=
  ⟨⟨witness_Safe_loader.1, witness_Safe_loader.2, witness_Safe_origin, witness_Safe_tables.1, witness_Safe_tables.2,
    witness_Safe_line.1, witness_Safe_line.2, witness_Safe_time.1, witness_Safe_time.2⟩, base.passTick, rfl⟩

theorem witness_FramesReadBack :
    stationOk 250 = true ∧ FrameKind.lengthOk .roll 23 = true ∧ FrameKind.lengthOk .roll 12 = true ∧
      FrameKind.lengthOk .record 16 = true ∧ FrameKind.lengthOk .acknowledge 5 = true := by decide

theorem witness_BodiesReadBack :
    let r := { rec' 5 64 .supply .supplyLoss .opened 255 with
      group := 511, parent := some 511, occurrences := 255, ackMark := some 250 }
    pointOk r.key.point = true ∧ r.kind ≠ .station ∧ r.conds = [.supplyLoss] ∧ Condition.supplyLoss.kind = r.kind ∧
      readRecord (writeRecord 0xFFFF r true 1048575) = some ⟨0xFFFF, true, ⟨64, .supply, [.supplyLoss], .opened, false,
        511, some 511, 255, 1048575, some 255, some 250⟩⟩ := by decide +kernel

theorem witness_RollReadsBack :
    let r := { rec' 5 0 .station .lineMute .opened 255 with
      conds := [.numberClash, .groupClash, .tableFull, .lineMute, .groupTableFull], ackMark := some 1 }
    r.conds.Pairwise (fun a b => a.code < b.code) ∧ (∀ c ∈ r.conds, c.kind = .station) ∧
      (readRoll (writeRoll 1 600 [64] (some (r, 0)))).map (fun f => (f.window, f.openSet, f.part.map (·.conds))) =
        some (600, [64], some r.conds) := by decide

/-! ### Outside its condition a command changes nothing (log 2): each at a value next to the condition's end -/

/-- The command answers the state unchanged. -/
def keeps (s : State) (i : Instr) : Bool := decide (nextOf (exec i s) = some s)

/-- The lamp's four judgements (R61 to R63): a tick early, with the other dusk level, while a settle runs, at an off point. -/
theorem witness_LampOut_otherwise :
    let dark := withMonitor 1 (lamp false 99000 []) base
    let lit := withMonitor 1 (lamp true 99500 []) base
    keeps (withMonitor 1 (lamp false 99001 []) base) (.outConfirm 1) = true ∧
      keeps { dark with field := { dark.field with duskOn := false } } (.outConfirm 1) = true ∧
      keeps { dark with field := { dark.field with settleEnd := some 100001 } } (.outConfirm 1) = true ∧
      keeps lit (.outConfirm 1) = true ∧ keeps (withMonitor 1 (lamp true 99501 []) base) (.outClear 1) = true ∧
      keeps dark (.outClear 1) = true ∧ keeps lit (.dayburnConfirm 1) = true ∧
      keeps (withMonitor 1 (lamp false 99501 []) base) (.dayburnClear 1) = true ∧ keeps lit (.dayburnClear 1) = true ∧
      keeps (withMonitor 1 .off base) (.outConfirm 1) = true ∧ keeps dark (.outConfirm 1) = false := by decide +kernel

/-- The dusk input without a profile, the settle's end, the cycle list's expiry (R58, R61, R64, R195). -/
theorem witness_Dusk_otherwise :
    let s := withMonitor 1 (lamp true 0 [10, 20, 30]) base
    keeps State.reset (.duskChange true) = true ∧ keeps base .duskSettleEnd = true ∧
      keeps { base with field := { base.field with settleEnd := some 100001 } } .duskSettleEnd = true ∧
      keeps { s with time := ⟨9, 1800, 0⟩ } (.cyclingWindowExpiry 1) = true ∧
      keeps (withMonitor 1 (lamp true 0 [10, 20]) base) (.cyclingWindowExpiry 1) = true ∧
      keeps (withMonitor 1 .off base) (.lampCurrentChange 1 true) = true := by decide +kernel

/-- Loop (R67, R69, R73). -/
theorem witness_Loop_otherwise :
    let m := loop 15 none none (some 1000)
    keeps (withMonitor 2 (.loop { m with gateStart := 99996 }) base) (.loopGateEnd 2 5) = true ∧
      keeps (withMonitor 2 (.loop { m with gates := 16 }) base) (.loopGateEnd 2 5) = true ∧
      keeps (withMonitor 2 (.loop m) base) (.loopBaselinePeriodEnd 2) = true ∧
      keeps (withMonitor 2 (.loop { m with onsets := List.replicate 41 94001 }) base) (.chatterWindowExpiry 2) = true ∧
      keeps (withMonitor 2 (.loop { m with onsets := List.replicate 40 94000 }) base) (.chatterWindowExpiry 2) = true ∧
      keeps (withMonitor 2 .off base) (.loopGateEnd 2 5) = true := by decide +kernel

/-- Sign and supply (R76, R78, R80). -/
theorem witness_SignSupply_otherwise :
    keeps (withMonitor 3 (.sign (sign 1 99981)) base) (.signBurstEnd 3) = true ∧
      keeps (withMonitor 3 (.sign { sign 1 99980 with heartbeatStart := some 97001 }) base) (.noHeartbeat 3) = true ∧
      keeps (withMonitor 3 .off base) (.signPulse 3) = true ∧
      keeps (withMonitor 4 (.supply ⟨false, 99901, 99901, []⟩) base) (.supplyLossConfirm 4) = true ∧
      keeps (withMonitor 4 (.supply ⟨true, 99801, 99801, []⟩) base) (.supplyRestoreConfirm 4) = true ∧
      keeps (withMonitor 4 (.supply ⟨true, 0, 0, []⟩) base) (.supplyLossConfirm 4) = true ∧
      keeps (withMonitor 4 .off base) (.supplyContactChange 4 true) = true := by decide +kernel

/-- Origin Unit (R84, R88, R90, R91, R94, R97, R156, R161). -/
theorem witness_Origin_otherwise :
    let r := { rec' 5 64 .lamp .lampOut .opened 1 with flapping := true }
    let s := { base with origin := base.origin.setSlot 64 { OwnSlot.start with record := some r, quietEnd := some 100001 } }
    let l := withSlot 1 (rec' 5 1 .lamp .lampOut .cleared 1) [] base
    keeps s (.flapRelease 64) = true ∧ keeps base (.flapRelease 64) = true ∧
      keeps { l with time := ⟨99, 939, 0⟩ } (.ownLingerEnd 1) = true ∧ keeps base (.ownLingerEnd 0) = true ∧
      [Instr.conditionReport 1, .stationConditionReport .tableEngine, .holdBegunSignal, .holdEndedSignal, .ownAckDecision,
        .acknowledgeAtOrigin].all (keeps base) = true ∧
      keeps { base with origin := { base.origin with stepDue := some 100001 } } .walkStep = true := by decide +kernel

/-- Deadlines (R14, R113). -/
theorem witness_Deadlines_otherwise :
    let s := withPeer 9 .present none base
    keeps { s with time := ⟨99, 279, 0⟩ } (.silenceDeadline 9) = true ∧
      keeps (withPeer 9 .silent none base) (.silenceDeadline 9) = true ∧ keeps base (.silenceDeadline 250) = true ∧
      keeps { withTable [rec' 9 1 .lamp .lampOut .cleared 1] [] base with time := ⟨99, 939, 0⟩ }
        (.lingerDeadlineDue 9 1) = true ∧
      keeps (withTable [rec' 9 1 .lamp .lampOut .opened 1] [] base) (.lingerDeadlineDue 9 1) = true ∧
      keeps (withTable [] [⟨3, .returning 1001⟩] base) (.graceDeadlineDue 3) = true ∧
      keeps (withTable [] [⟨3, .down 9⟩] base) (.graceDeadlineDue 3) = true := by decide +kernel

/-- The line without a profile, a run's gap, an access moment outside IN-STEP, the line's timers (R130, R131, R136, R192, R195). -/
theorem witness_Line_otherwise :
    let held := { base with rx := { base.rx with run := some ⟨[1], false, 0, false⟩ } }
    [Instr.lineCharacterHeard 0xC5 true 5, .echoTimeout 5, .runClose 5, .accessMoment 5].all (keeps State.reset) = true ∧
      (nextOf (exec (.runClose 319) held)).map (fun t => t.rx.run.isSome) = some true ∧
      (nextOf (exec (.accessMoment 5000) (inState .listening waiting))).map (fun t => t.tx.state.isSending) = some false ∧
      (nextOf (exec (.accessMoment 321) held)).map (fun t => t.rx.run.isSome) = some false ∧
      [Instr.clashTimerEnd, .lineMuteClearTimerEnd, .muteEnd, .listeningTimerEnd, .echoTimeout 0].all (keeps base) = true ∧
      keeps { inState .mute base with tx := { base.tx with muteEnd := some 100001 } } .muteEnd = true ∧
      keeps { base with tx := { base.tx with muteEnd := some 0 } } .muteEnd = true := by decide +kernel

/-- The port (R165 to R170, R180): a request of another command, and every command with nothing to do. -/
theorem witness_Port_otherwise :
    [Instr.requestComplete, .requestGapTimeout, .readyAsserted, .reportDelivered, .dumpIdleTimeout].all (keeps base) = true ∧
      [Instr.view, .dump, .next, .stop, .ack, .rejoin, .malformedRequest].all (keeps (withRequest .status base)) = true ∧
      keeps { base with port := { base.port with assembler := .gathering [1] false 99991 } } .requestGapTimeout = true ∧
      keeps { base with port := { base.port with reports := [.viewOk], sent := 3 } } .reportDelivered = true ∧
      keeps { base with port := { base.port with reports := [.viewOk], sent := 4 } } .readyAsserted = true ∧
      keeps { base with port := { base.port with dump := .opened .table .start (some 100001) } } .dumpIdleTimeout = true := by
  decide +kernel

/-- The loader (R192, R199): a header and an image outside LOADING, the parts of a REJOIN with none in progress. -/
theorem witness_Loader_otherwise :
    keeps base (.profileHeaderTaken [0x5A, 0x31, 2, 0x89, 0, 0]) = true ∧
      (image 250 1).length = 649 ∧ base.loader.state ≠ .loading ∧ keeps base (.profileReadDone (image 250 1) true 0) = true ∧
      [Instr.transmitterRejoinPart, .tableEngineRejoinPart, .rejoinComplete].all (keeps base) = true ∧
      keeps (rejoining true false) .rejoinComplete = true ∧ keeps (rejoining true false) .transmitterRejoinPart = true ∧
      keeps { inState .listening base with loader := { (inState .listening base).loader with listenEnd := some 100001 } }
        .listeningTimerEnd = true := by decide +kernel

/-! ### The content check, written out from R116 and R206 to R208 -/

/-- A sound RECORD body: SUPPLY, group 511 with parent 1, age above the limit, occurrences 255, ack station 250. -/
def soundRecord : List Byte := [0, 7, 64, 4, 14, 0xF8, 255, 1, 255, 0, 1, 16, 0, 0, 255, 250]

theorem witness_Content_record :
    (readRecord soundRecord).map (fun f => (f.ann.group, f.ann.parent, f.ann.age, f.ann.ack)) =
        some (511, some 1, 1048575, some 250) ∧
      [soundRecord.set 2 0, soundRecord.set 2 65, soundRecord.set 3 5, soundRecord.set 3 1, soundRecord.set 4 13,
        soundRecord.set 7 2, (soundRecord.set 7 0).set 8 0, soundRecord.set 9 2, soundRecord.set 14 0,
        soundRecord.set 15 251].all (fun b => (readRecord b).isNone) = true ∧
      (readRecord ((soundRecord.set 3 1).set 4 1)).isNone = true ∧
      (readRecord (((soundRecord.set 3 1).set 4 3).set 10 0)).isSome = true := by decide +kernel

/-- A sound ROLL body with three conditions out of order, of a CLEARED record. -/
def soundRoll : List Byte := [0, 7, 2, 88, 0, 0, 0, 0, 0, 0, 0, 128, 4, 1, 16, 0, 0, 9, 19, 15, 17]

theorem witness_Content_roll :
    (readRoll soundRoll).map (fun f => (f.window, f.openSet)) = some (600, [64]) ∧
      (readRoll soundRoll).bind (fun f => f.part.map (fun a => (a.conds, a.ack, a.age))) =
        some ([.numberClash, .tableFull, .groupTableFull], none, 1048575) ∧
      [soundRoll.set 3 89, (soundRoll.set 2 0).set 3 59, soundRoll.set 17 251, soundRoll.set 18 15, soundRoll.set 18 14,
        soundRoll.set 18 20].all (fun b => (readRoll b).isNone) = true ∧
      (readRoll (soundRoll.take 12)).isSome = true := by decide +kernel

theorem witness_Content_acknowledge :
    [[0, 7, 250, 64, 255], [0, 7, 1, 0, 0]].all (fun b : List Byte => (readAcknowledge b).isSome) = true ∧
      [[0, 7, 0, 64, 255], [0, 7, 251, 0, 0], [0, 7, 1, 65, 0]].all (fun b : List Byte => (readAcknowledge b).isNone) = true := by
  decide +kernel

end Sys2Proof.Tests
end

/-!
PROOFS. The view state, the hold group and the holding group of a record, as R9 derives them.
-/
namespace Sys2Proof.Machine

/-! ### The hold group -/

theorem Record.holdGroup_of_field_point (r : Record) (h : r.kind = .lamp ∨ r.kind = .loop ∨ r.kind = .sign) :
    r.holdGroup = if r.group = 0 then none else some r.group := by
  obtain h | h | h := h <;> simp [Record.holdGroup, h]

theorem Record.holdGroup_of_supply (r : Record) (h : r.kind = .supply) : r.holdGroup = r.parent := by
  simp [Record.holdGroup, h]

theorem Record.holdGroup_of_station (r : Record) (h : r.kind = .station) : r.holdGroup = none := by
  simp [Record.holdGroup, h]

/-! ### The entry of the hold group -/

theorem hasEntry_iff (groups : List GroupEntry) (g : Nat) :
    hasEntry groups g = true ↔ ∃ e ∈ groups, e.group = g := by
  simp [hasEntry]

theorem Record.behind_of_holdGroup_some {r : Record} {g : Nat} (h : r.holdGroup = some g) (groups : List GroupEntry) :
    r.behind groups = true ↔ ∃ e ∈ groups, e.group = g := by
  simp [Record.behind, h, hasEntry_iff]

theorem Record.behind_of_holdGroup_none {r : Record} (h : r.holdGroup = none) (groups : List GroupEntry) :
    r.behind groups = false := by
  simp [Record.behind, h]

/-! ### The view state -/

theorem Record.view_of_cleared (r : Record) (groups : List GroupEntry) (h : r.state = .cleared) :
    r.view groups = .cleared := by
  simp [Record.view, h]

theorem Record.view_of_opened (r : Record) (groups : List GroupEntry) (h : r.state = .opened) :
    r.view groups = if r.behind groups then .held else .active := by
  simp [Record.view, h]

theorem Record.view_held_iff (r : Record) (groups : List GroupEntry) (h : r.state = .opened) :
    r.view groups = .held ↔ r.behind groups = true := by
  rw [r.view_of_opened groups h]
  cases r.behind groups <;> simp

theorem Record.view_active_iff (r : Record) (groups : List GroupEntry) (h : r.state = .opened) :
    r.view groups = .active ↔ r.behind groups = false := by
  rw [r.view_of_opened groups h]
  cases r.behind groups <;> simp

/-! ### The item of a notice or page -/

@[simp] theorem Record.item_record (r : Record) (groups : List GroupEntry) : (r.item groups).record = r := rfl

@[simp] theorem Record.item_view (r : Record) (groups : List GroupEntry) :
    (r.item groups).view = r.view groups := rfl

theorem Record.item_holding (r : Record) (groups : List GroupEntry) :
    (r.item groups).holding = if r.view groups = .held then r.holdGroup else none := rfl

/-! ### R9 -/

/-- Settles O23: the hold group by the record's kind, the view state by its origin state and by whether its hold group
has an entry. -/
theorem viewStateIsDerived : Obligations.ViewStateIsDerived := by
  intro r groups
  refine ⟨?holdGroup, r.view_of_cleared groups, ?grouped, ?ungrouped, r.item_record groups, r.item_view groups,
    fun held => ?holding, fun notHeld => ?noHolding⟩
  case holdGroup =>
    cases h : r.kind with
    | lamp => exact r.holdGroup_of_field_point (.inl h)
    | loop => exact r.holdGroup_of_field_point (.inr (.inl h))
    | sign => exact r.holdGroup_of_field_point (.inr (.inr h))
    | supply => exact r.holdGroup_of_supply h
    | station => exact r.holdGroup_of_station h
  case grouped =>
    intro g opened hg
    have behind := Record.behind_of_holdGroup_some hg groups
    refine ⟨(r.view_held_iff groups opened).trans behind, ?_⟩
    rw [r.view_active_iff groups opened, ← Bool.not_eq_true, behind]
    simp
  case ungrouped =>
    intro opened hg
    exact (r.view_active_iff groups opened).2 (Record.behind_of_holdGroup_none hg groups)
  case holding => rw [r.item_holding, if_pos held]
  case noHolding => rw [r.item_holding, if_neg notHeld]

end Sys2Proof.Machine

/-!
PROOFS. The arrival of a peer frame: what the receive queue and its counts become (R108), and what the roster becomes
when the sender is heard (R112, R114).
-/
namespace Sys2Proof.Machine

/-! ### Lookups in the roster (R111) -/

theorem RosterUnit.find_station {u : RosterUnit} {n : Nat} {e : RosterEntry} (h : u.find n = some e) :
    e.station = n := by
  simpa using List.find?_some h

/-- An entry that joins where its station had none is found, and every other station's lookup is as before. -/
theorem RosterUnit.find_insert (u : RosterUnit) (e : RosterEntry) (n : Nat) (h : u.find e.station = none) :
    RosterUnit.find { u with entries := insertPeerEntry e u.entries } n =
      if n = e.station then some e else u.find n := by
  obtain ⟨l, events⟩ := u
  simp only [RosterUnit.find] at *
  induction l with
  | nil => by_cases hn : n = e.station <;> simp [insertPeerEntry, hn, eq_comm]
  | cons x l ih =>
    obtain ⟨hx, hl⟩ : x.station ≠ e.station ∧ l.find? (fun x => decide (x.station = e.station)) = none := by
      simpa using h
    unfold insertPeerEntry
    split
    · by_cases hn : n = e.station <;> simp [hn, eq_comm]
    · by_cases hxn : x.station = n
      · subst hxn; simp [hx]
      · simpa [hxn] using ih hl

/-- Writing an entry keeps every entry's station, so a lookup meets the entry it met before, overwritten where it is the
one written. -/
theorem RosterUnit.find_put (u : RosterUnit) (e : RosterEntry) (n : Nat) :
    (u.put e).find n = (u.find n).map (fun x => if x.station = e.station then e else x) := by
  have sameTest (x : RosterEntry) :
      decide ((if x.station = e.station then e else x).station = n) = decide (x.station = n) := by
    by_cases hx : x.station = e.station <;> simp [hx]
  simp only [RosterUnit.find, RosterUnit.put, List.find?_map, Function.comp_def, sameTest]

@[simp] theorem RosterUnit.put_events (u : RosterUnit) (e : RosterEntry) : (u.put e).events = u.events := rfl

/-! ### Roster events (R114) -/

@[simp] theorem RosterUnit.find_makeEvent (u : RosterUnit) (n m : Nat) (st : PeerState) :
    (u.makeEvent n st).find m = u.find m := by
  unfold RosterUnit.makeEvent
  split <;> rfl

theorem RosterUnit.makeEvent_events (u : RosterUnit) (n : Nat) (st : PeerState) :
    (u.makeEvent n st).events = if n ∈ u.events.map (·.station)
      then u.events.filter (fun e => decide (e.station ≠ n)) else u.events ++ [⟨n, st⟩] := by
  have waits : u.events.any (fun e => decide (e.station = n)) = true ↔ n ∈ u.events.map (·.station) := by simp
  unfold RosterUnit.makeEvent
  simp only [waits]
  split <;> rfl

/-! ### Heard reports (R112) -/

/-- The entry of a peer once it has been heard again. -/
def RosterEntry.heardAt (e : RosterEntry) (now : Nat) : RosterEntry :=
  { e with state := .present, lastHeard := now, framesHeard := e.framesHeard + 1 }

@[simp] theorem RosterEntry.heardAt_station (e : RosterEntry) (now : Nat) : (e.heardAt now).station = e.station := rfl

theorem RosterUnit.heard_of_unknown {u : RosterUnit} {n : Nat} (h : u.find n = none) (now : Nat) :
    u.heard now n = { u with entries := insertPeerEntry (RosterEntry.first n now) u.entries } := by
  simp [RosterUnit.heard, h]

theorem RosterUnit.heard_of_present {u : RosterUnit} {n : Nat} {e : RosterEntry} (h : u.find n = some e)
    (hp : e.state = .present) (now : Nat) : u.heard now n = u.put (e.heardAt now) := by
  simp [RosterUnit.heard, h, hp, RosterEntry.heardAt]

theorem RosterUnit.heard_of_silent {u : RosterUnit} {n : Nat} {e : RosterEntry} (h : u.find n = some e)
    (hs : e.state = .silent) (now : Nat) : u.heard now n = (u.put (e.heardAt now)).makeEvent n .present := by
  simp [RosterUnit.heard, h, hs, RosterEntry.heardAt]

theorem RosterUnit.find_put_heardAt {u : RosterUnit} {n : Nat} {e : RosterEntry} (h : u.find n = some e)
    (now m : Nat) : (u.put (e.heardAt now)).find m = if m = n then some (e.heardAt now) else u.find m := by
  have he : e.station = n := RosterUnit.find_station h
  rw [RosterUnit.find_put, RosterEntry.heardAt_station, he]
  split
  case isTrue hm => simp [hm, h, he]
  case isFalse hm =>
    cases hx : u.find m with
    | none => rfl
    | some x => simp [RosterUnit.find_station hx, hm]

theorem RosterUnit.find_heard_of_unknown {u : RosterUnit} {n : Nat} (h : u.find n = none) (now m : Nat) :
    (u.heard now n).find m = if m = n then some (RosterEntry.first n now) else u.find m := by
  rw [RosterUnit.heard_of_unknown h]
  exact u.find_insert (RosterEntry.first n now) m h

theorem RosterUnit.find_heard_of_known {u : RosterUnit} {n : Nat} {e : RosterEntry} (h : u.find n = some e)
    (now m : Nat) : (u.heard now n).find m = if m = n then some (e.heardAt now) else u.find m := by
  cases hs : e.state with
  | present => rw [RosterUnit.heard_of_present h hs, RosterUnit.find_put_heardAt h]
  | silent => rw [RosterUnit.heard_of_silent h hs, RosterUnit.find_makeEvent, RosterUnit.find_put_heardAt h]

/-- A heard report is a matter of the entry of its station alone. -/
theorem RosterUnit.find_heard_of_ne (u : RosterUnit) (now : Nat) {n m : Nat} (hm : m ≠ n) :
    (u.heard now n).find m = u.find m := by
  cases h : u.find n with
  | none => rw [RosterUnit.find_heard_of_unknown h, if_neg hm]
  | some e => rw [RosterUnit.find_heard_of_known h, if_neg hm]

/-! ### The fate of a frame (R108) -/

theorem PeerFrame.repeats_iff (f : PeerFrame) :
    f.repeats = true ↔ f.kind = .record ∧ bitAt f.body 5 2 = true ∨ f.kind = .roll ∧ f.body.length = 12 := by
  unfold PeerFrame.repeats
  cases f.kind <;> simp

/-- An arrival is a matter of the Line Receiver and the Roster Unit. -/
theorem State.frameArrives_frame (s : State) (f : PeerFrame) :
    s.frameArrives f = { s with rx := (s.frameArrives f).rx, roster := (s.frameArrives f).roster } := rfl

@[simp] theorem State.frameArrives_roster (s : State) (f : PeerFrame) :
    (s.frameArrives f).roster = s.roster.heard s.nowSec f.sender := rfl

theorem State.frameArrives_rx_queued {s : State} {f : PeerFrame} (room : s.rx.queue.length < 32)
    (kept : s.rx.queue.length < s.shedThreshold ∨ f.repeats = false) :
    (s.frameArrives f).rx = { s.rx with queue := s.rx.queue ++ [f], queued := s.rx.queued + 1 } := by
  have notShed : ¬ (s.shedThreshold ≤ s.rx.queue.length && f.repeats) = true := by
    simpa [or_iff_not_imp_left] using kept
  simp only [State.frameArrives, Config.receivePlaces, if_neg (Nat.not_le.2 room), if_neg notShed]

theorem State.frameArrives_rx_shed {s : State} {f : PeerFrame} (room : s.rx.queue.length < 32)
    (pressed : s.shedThreshold ≤ s.rx.queue.length) (repeats : f.repeats = true) :
    (s.frameArrives f).rx = { s.rx with shed := s.rx.shed + 1 } := by
  simp [State.frameArrives, Nat.not_le.2 room, pressed, repeats]

theorem State.frameArrives_rx_lost {s : State} {f : PeerFrame} (full : 32 ≤ s.rx.queue.length) :
    (s.frameArrives f).rx = { s.rx with lost := s.rx.lost + 1 } := by
  simp [State.frameArrives, full]

/-- R108: the queue keeps its bound, whichever of the three fates the frame meets. -/
theorem State.frameArrives_queue_length_le {s : State} (f : PeerFrame) (h : s.rx.queue.length ≤ 32) :
    (s.frameArrives f).rx.queue.length ≤ 32 := by
  by_cases full : 32 ≤ s.rx.queue.length
  · rw [State.frameArrives_rx_lost full]
    exact h
  have room : s.rx.queue.length < 32 := Nat.not_le.1 full
  by_cases kept : s.rx.queue.length < s.shedThreshold ∨ f.repeats = false
  · rw [State.frameArrives_rx_queued room kept, List.length_append]
    exact room
  · obtain ⟨pressed, repeats⟩ : s.shedThreshold ≤ s.rx.queue.length ∧ f.repeats = true := by simpa using kept
    rw [State.frameArrives_rx_shed room pressed repeats]
    exact h

/-- Settles O37: the frame's fate by its kind and the occupancy, and its sender's entry by whether there is one
and in which state. -/
theorem peerFramesAreQueuedShedOrLost : Obligations.PeerFramesAreQueuedShedOrLost := by
  rintro f occupancy repeats s t rfl rfl hrepeats
  obtain rfl : repeats = f.repeats := by
    rw [hrepeats, ← Bool.coe_iff_coe, decide_eq_true_iff, f.repeats_iff]
  refine ⟨fun ⟨room, kept⟩ => State.frameArrives_rx_queued room kept,
    fun ⟨room, pressed, repeated⟩ => State.frameArrives_rx_shed room pressed repeated,
    State.frameArrives_rx_lost, s.frameArrives_queue_length_le f, s.frameArrives_frame f,
    fun m hm => s.roster.find_heard_of_ne s.nowSec hm, fun unknown => ⟨?newEntry, ?noEvent⟩,
    fun e known => ⟨?entry, fun present => ?noEventPresent, fun silent => ?eventSilent⟩⟩
  case newEntry => exact (RosterUnit.find_heard_of_unknown unknown _ _).trans (if_pos rfl)
  case noEvent => rw [s.frameArrives_roster, RosterUnit.heard_of_unknown unknown]
  case entry => exact (RosterUnit.find_heard_of_known known _ _).trans (if_pos rfl)
  case noEventPresent => rw [s.frameArrives_roster, RosterUnit.heard_of_present known present, RosterUnit.put_events]
  case eventSilent =>
    rw [s.frameArrives_roster, RosterUnit.heard_of_silent known silent, RosterUnit.makeEvent_events,
      RosterUnit.put_events]

end Sys2Proof.Machine

/-!
PROOFS. RESET of the Dispatcher Port: whatever the state before, the port stands at the start values of R184.
-/
namespace Sys2Proof.Machine

/-! ### RESET (R193) -/

@[simp] theorem exec_reset (s : State) : exec .reset s = .next (reset s) := rfl

/-- The port's part of R193: nothing of the port's state before survives. -/
@[simp] theorem reset_port (s : State) : (reset s).port = DispatcherPort.start := rfl

/-! ### The port at its start values (R184) -/

theorem ViewFilter.start_eq :
    ViewFilter.start = ⟨1, [.lamp, .loop, .sign, .supply, .station], true, false, true⟩ := rfl

/-- The rate and the notice limit that hold until a profile load completes (R165, R184). -/
theorem DispatcherPort.start_settings : DispatcherPort.start.rate = 9600 ∧ DispatcherPort.start.limit = 56 :=
  ⟨rfl, rfl⟩

/-- No request is gathered, waits or is served, and no report waits or is being sent. -/
theorem DispatcherPort.start_quiet :
    DispatcherPort.start.assembler = .idle ∧ DispatcherPort.start.requests = [] ∧
      DispatcherPort.start.service = .free ∧ DispatcherPort.start.reports = [] ∧ DispatcherPort.start.sent = 0 :=
  ⟨rfl, rfl, rfl, rfl, rfl⟩

/-- The terminal's view: the start filter, no watch, no resync owed, no dump open. -/
theorem DispatcherPort.start_view :
    DispatcherPort.start.filter = ViewFilter.start ∧ DispatcherPort.start.watch = false ∧
      DispatcherPort.start.resync = false ∧ DispatcherPort.start.dump = .none :=
  ⟨rfl, rfl, rfl, rfl⟩

theorem DispatcherPort.start_counts : DispatcherPort.start.dropped = 0 ∧ DispatcherPort.start.discarded = 0 :=
  ⟨rfl, rfl⟩

/-- Settles O4: RESET puts the port at its start, whose values are those of R184. -/
theorem resetGivesPortStartValues : Obligations.ResetGivesPortStartValues := by
  intro s
  obtain ⟨rate, limit⟩ := DispatcherPort.start_settings
  obtain ⟨assembler, requests, service, reports, sent⟩ := DispatcherPort.start_quiet
  obtain ⟨filter, watch, resync, dump⟩ := DispatcherPort.start_view
  obtain ⟨dropped, discarded⟩ := DispatcherPort.start_counts
  refine ⟨reset s, exec_reset s, ?_⟩
  rw [reset_port]
  exact ⟨rate, assembler, requests, service, reports, sent, filter.trans ViewFilter.start_eq, watch, limit, resync,
    dump, dropped, discarded⟩

end Sys2Proof.Machine

/-!
PROOFS. The effect of a command: what its meaning makes of the state, apart from the answer that its well-formedness
decides. Every statement about a step is a statement about the effects.
-/
namespace Sys2Proof.Machine

/-! ### The effect of each command -/

/-- The next state of a command that names an input of the part. -/
def effect : Instr → State → State
  | .reset => reset
  | .profileHeaderTaken header => profileHeaderTaken header
  | .profileReadDone image duskOn levels => profileReadDone image duskOn levels
  | .duskChange on => duskChange on
  | .duskSettleEnd => duskSettleEnd
  | .lampCurrentChange p present => lampCurrentChange p present
  | .outConfirm p => outConfirm p
  | .outClear p => outClear p
  | .dayburnConfirm p => dayburnConfirm p
  | .dayburnClear p => dayburnClear p
  | .cyclingWindowExpiry p => cyclingWindowExpiry p
  | .loopGateEnd p edges => loopGateEnd p edges
  | .loopBaselinePeriodEnd p => loopBaselinePeriodEnd p
  | .chatterWindowExpiry p => chatterWindowExpiry p
  | .signBurstEnd p => signBurstEnd p
  | .noHeartbeat p => noHeartbeat p
  | .supplyContactChange p closed => supplyContactChange p closed
  | .supplyLossConfirm p => supplyLossConfirm p
  | .supplyRestoreConfirm p => supplyRestoreConfirm p
  | .conditionReport p => conditionReport p
  | .stationConditionReport src => stationConditionReport src
  | .flapRelease k => flapRelease k
  | .ownLingerEnd k => ownLingerEnd k
  | .holdBegunSignal => holdBegunSignal
  | .holdEndedSignal => holdEndedSignal
  | .ownAckDecision => ownAckDecision
  | .acknowledgeAtOrigin => acknowledgeAtOrigin
  | .walkStep => walkStep
  | .lineCharacterHeard char stopFound dt => lineCharacterHeard char stopFound dt
  | .echoTimeout dt => echoTimeout dt
  | .runClose dt => runClose dt
  | .accessMoment dt => accessMoment dt
  | .clashTimerEnd => clashTimerEnd
  | .muteEnd => muteEnd
  | .lineMuteClearTimerEnd => lineMuteClearTimerEnd
  | .silenceDeadline n => silenceDeadline n
  | .ownUpdate => ownUpdate
  | .lingerDeadlineDue o p => lingerDeadlineDue o p
  | .lingerExpiry => lingerExpiry
  | .graceDeadlineDue g => graceDeadlineDue g
  | .graceExpiry => graceExpiry
  | .rosterEventSilent => rosterEventSilent
  | .rosterEventPresent => rosterEventPresent
  | .recordFrame => recordFrame
  | .rollFrame => rollFrame
  | .acknowledgeFrame => acknowledgeFrame
  | .pageBuild => pageBuild
  | .requestComplete => requestComplete
  | .requestGapTimeout => requestGapTimeout
  | .status => status
  | .view => view
  | .dump => dump
  | .next => next
  | .stop => stop
  | .ack => ack
  | .rejoin => rejoin
  | .malformedRequest => malformedRequest
  | .transmitterRejoinPart => transmitterRejoinPart
  | .tableEngineRejoinPart => tableEngineRejoinPart
  | .rejoinComplete => rejoinComplete
  | .listeningTimerEnd => listeningTimerEnd
  | .readyAsserted => readyAsserted
  | .reportDelivered => reportDelivered
  | .dumpIdleTimeout => dumpIdleTimeout
  | .signPulse p => signPulse p
  | .requestCharacterTaken char stopFound => requestCharacterTaken char stopFound

/-- Every arm of the dispatch answers with the command's check and its effect (log 16). -/
theorem exec_eq_answer (i : Instr) (s : State) : exec i s = answer i.wellFormed (effect i s) := by
  cases i <;> rfl

theorem exec_of_wellFormed {i : Instr} (h : i.wellFormed = true) (s : State) : exec i s = .next (effect i s) := by
  rw [exec_eq_answer, h, answer_true]

theorem exec_next {i : Instr} {s t : State} (h : exec i s = .next t) : i.wellFormed = true ∧ t = effect i s := by
  rw [exec_eq_answer] at h
  obtain ⟨ok, rfl⟩ := answer_next h
  exact ⟨ok, rfl⟩

/-! ### One step -/

theorem step_of_idle {s : State} (h : s.pending = []) : step s = .next s.passTick := by
  simp [step, h]

theorem step_of_waiting {s : State} {i : Instr} {rest : List Instr} (h : s.pending = i :: rest) :
    step s = exec i { s with pending := rest } := by
  simp [step, h]

/-- What a step can do: a tick, or the effect of the front command on the queue's rest. -/
theorem step_cases {s t : State} (h : step s = .next t) :
    (s.pending = [] ∧ t = s.passTick) ∨
      ∃ i rest, s.pending = i :: rest ∧ i.wellFormed = true ∧ t = effect i { s with pending := rest } := by
  cases hp : s.pending with
  | nil =>
    rw [step_of_idle hp] at h
    cases h
    exact .inl ⟨rfl, rfl⟩
  | cons i rest =>
    rw [step_of_waiting hp] at h
    obtain ⟨ok, rfl⟩ := exec_next h
    exact .inr ⟨i, rest, rfl, ok, rfl⟩

/-- The induction of the invariants, once: what a tick and every effect keep, every step keeps. -/
theorem step_keeps {P Q : State → Prop} (unqueue : ∀ s rest, P s → P { s with pending := rest })
    (tick : ∀ s, P s → Q s.passTick) (command : ∀ i s, i.wellFormed = true → P s → Q (effect i s)) {s t : State}
    (hs : P s) (h : step s = .next t) : Q t := by
  obtain ⟨-, rfl⟩ | ⟨i, rest, -, ok, rfl⟩ := step_cases h
  · exact tick s hs
  · exact command i _ ok (unqueue s rest hs)

/-! ### Which block a command is taken by -/

/-- The parts of the model whose commands share a frame. -/
inductive Block where
  | field
  | origin
  | line
  | timers
  | deadlines
  | claims
  | assembler
  | service
  | output
  | startup
deriving DecidableEq

/-- The block that takes a command. -/
def commandBlock : Instr → Block
  | .duskChange _ | .duskSettleEnd | .lampCurrentChange _ _ | .outConfirm _ | .outClear _ | .dayburnConfirm _
  | .dayburnClear _ | .cyclingWindowExpiry _ | .loopGateEnd _ _ | .loopBaselinePeriodEnd _ | .chatterWindowExpiry _
  | .signPulse _ | .signBurstEnd _ | .noHeartbeat _ | .supplyContactChange _ _ | .supplyLossConfirm _
  | .supplyRestoreConfirm _ => .field
  | .conditionReport _ | .stationConditionReport _ | .flapRelease _ | .ownLingerEnd _ | .holdBegunSignal
  | .holdEndedSignal | .ownAckDecision | .acknowledgeAtOrigin | .walkStep => .origin
  | .lineCharacterHeard _ _ _ | .echoTimeout _ | .runClose _ | .accessMoment _ => .line
  | .clashTimerEnd | .muteEnd | .lineMuteClearTimerEnd => .timers
  | .silenceDeadline _ | .lingerDeadlineDue _ _ | .graceDeadlineDue _ => .deadlines
  | .ownUpdate | .lingerExpiry | .graceExpiry | .rosterEventSilent | .rosterEventPresent | .recordFrame | .rollFrame
  | .acknowledgeFrame | .pageBuild => .claims
  | .requestCharacterTaken _ _ | .requestComplete | .requestGapTimeout => .assembler
  | .status | .view | .dump | .next | .stop | .ack | .rejoin | .malformedRequest => .service
  | .readyAsserted | .reportDelivered | .dumpIdleTimeout => .output
  | .reset | .profileHeaderTaken _ | .profileReadDone _ _ _ | .transmitterRejoinPart | .tableEngineRejoinPart
  | .rejoinComplete | .listeningTimerEnd => .startup

end Sys2Proof.Machine

/-!
PROOFS. The field side: sets and reports of conditions, monitors behind points, and what a command of one point leaves
unchanged (R60, R81).
-/
namespace Sys2Proof.Machine

/-! ### Sets of conditions (R60) -/

theorem Condition.code_injective : Function.Injective Condition.code := by
  intro a b h
  cases a <;> cases b <;> first | rfl | exact absurd h (by decide)

/-- A set as the monitors keep it: in ascending code order. -/
abbrev Ascending (l : List Condition) : Prop := l.Pairwise (fun a b => a.code < b.code)

theorem Ascending.condJoin {l : List Condition} (h : Ascending l) (c : Condition) : Ascending (condJoin c l) := by
  induction l with
  | nil => simp [Machine.condJoin]
  | cons x l ih =>
    obtain ⟨hx, hl⟩ := List.pairwise_cons.1 h
    unfold Machine.condJoin
    split
    next hlt =>
      refine List.pairwise_cons.2 ⟨fun a ha => ?_, h⟩
      rcases List.mem_cons.1 ha with rfl | ha
      · exact hlt
      · exact hlt.trans (hx a ha)
    next hge =>
      split
      next => exact h
      next hne =>
        refine List.pairwise_cons.2 ⟨fun a ha => ?_, ih hl⟩
        rcases (mem_condJoin c a l).1 ha with rfl | ha
        · exact lt_of_le_of_ne (Nat.not_lt.1 hge) fun e => hne (Condition.code_injective e.symm)
        · exact hx a ha

theorem Ascending.condLeave {l : List Condition} (h : Ascending l) (c : Condition) : Ascending (condLeave c l) :=
  h.filter _

theorem mem_condSet (c d : Condition) (present : Bool) (l : List Condition) :
    d ∈ condSet c present l ↔ (present = true ∧ d = c) ∨ (d ∈ l ∧ (d = c → present = true)) := by
  unfold condSet
  cases present
  · simp [mem_condLeave]
  · simp [mem_condJoin]

/-- A condition other than the one set is in the set as before. -/
theorem mem_condSet_of_ne {c d : Condition} (h : d ≠ c) (present : Bool) (l : List Condition) :
    d ∈ condSet c present l ↔ d ∈ l := by
  simp [mem_condSet, h]

/-! ### The reports of one event (R60) -/

theorem mem_reportsOf (p : Nat) (before after : List Condition) (r : ConditionReport) :
    r ∈ reportsOf p before after ↔ r.point = p ∧
      (r.raise = true ∧ r.condition ∈ after ∧ r.condition ∉ before ∨
        r.raise = false ∧ r.condition ∈ before ∧ r.condition ∉ after) := by
  obtain ⟨point, c, raise⟩ := r
  cases raise <;> simp [reportsOf, and_comm, eq_comm (a := p)]

theorem reportsOf_self (p : Nat) (l : List Condition) : reportsOf p l l = [] := by
  refine List.eq_nil_iff_forall_not_mem.2 fun r hr => ?_
  obtain ⟨-, h, h'⟩ | ⟨-, h, h'⟩ := ((mem_reportsOf p l l r).1 hr).2 <;> exact h' h

theorem reportsOf_point {p : Nat} {before after : List Condition} {r : ConditionReport}
    (h : r ∈ reportsOf p before after) : r.point = p :=
  ((mem_reportsOf p before after r).1 h).1

/-! ### The monitor behind a point -/

theorem Field.setMonitor_monitor_of_ne (f : Field) {p q : Nat} (hp : pointOk p = true) (hq : pointOk q = true)
    (h : q ≠ p) (m : Monitor) : (f.setMonitor p m).monitor q = f.monitor q := by
  simp only [pointOk, Bool.and_eq_true, decide_eq_true_eq] at hp hq
  have hne : p - 1 ≠ q - 1 := by omega
  simp [Field.monitor, Field.setMonitor, List.getD_eq_getElem?_getD, hne]

theorem Field.setMonitor_monitor_self (f : Field) {p : Nat} (hp : pointOk p = true) (hlen : f.monitors.length = 64)
    (m : Monitor) : (f.setMonitor p m).monitor p = m := by
  simp only [pointOk, Bool.and_eq_true, decide_eq_true_eq] at hp
  have hlt : p - 1 < (f.setMonitor p m).monitors.length := by simp; omega
  rw [Field.monitor, if_neg (by omega), List.getD_eq_getElem _ _ hlt]
  exact List.getElem_set_self _

/-! ### A command of one point -/

/-- What a command of point p may change: the point's monitor, the marks and counts of the field side, and the reports
handed to the Origin Unit, all of that point. -/
structure PointOnly (p : Nat) (s t : State) : Prop where
  frame : t = { s with
    field := { s.field with
      monitors := t.field.monitors, malformedBursts := t.field.malformedBursts, duskSampledAt := t.field.duskSampledAt }
    origin := { s.origin with reportsIn := t.origin.reportsIn } }
  others : ∀ q, pointOk q = true → q ≠ p → t.field.monitor q = s.field.monitor q
  reports : ∃ new, t.origin.reportsIn = s.origin.reportsIn ++ new ∧ ∀ r ∈ new, r.point = p

theorem PointOnly.refl (p : Nat) (s : State) : PointOnly p s s :=
  ⟨rfl, fun _ _ _ => rfl, [], by simp, by simp⟩

theorem PointOnly.trans {p : Nat} {s t u : State} (h : PointOnly p s t) (h' : PointOnly p t u) : PointOnly p s u where
  frame := h'.frame.trans (by rw [h.frame])
  others q hq hne := (h'.others q hq hne).trans (h.others q hq hne)
  reports := by
    obtain ⟨new, e, hp⟩ := h.reports
    obtain ⟨new', e', hp'⟩ := h'.reports
    exact ⟨new ++ new', by rw [e', e, List.append_assoc], fun r hr => (List.mem_append.1 hr).elim (hp r) (hp' r)⟩

theorem PointOnly.setMonitor {p : Nat} (hp : pointOk p = true) (s : State) (m : Monitor) :
    PointOnly p s { s with field := s.field.setMonitor p m } :=
  ⟨rfl, fun _ hq hne => s.field.setMonitor_monitor_of_ne hp hq hne m, [], by simp, by simp⟩

theorem PointOnly.monitorEvent {p : Nat} (hp : pointOk p = true) (s : State) (m : Monitor)
    (before after : List Condition) : PointOnly p s (s.monitorEvent p m before after) :=
  ⟨rfl, fun _ hq hne => s.field.setMonitor_monitor_of_ne hp hq hne m, reportsOf p before after, rfl,
    fun _ hr => reportsOf_point hr⟩

theorem PointOnly.readDusk (p : Nat) (s : State) : PointOnly p s s.readDusk :=
  ⟨rfl, fun _ _ _ => rfl, [], by simp, by simp⟩

theorem PointOnly.lampJudged {p : Nat} (hp : pointOk p = true) (s : State) (m : LampMonitor) (after : List Condition) :
    PointOnly p s (s.lampJudged p m after) :=
  (PointOnly.readDusk p s).trans (.monitorEvent hp ..)

theorem PointOnly.endBurst {p : Nat} (hp : pointOk p = true) (s : State) (m : SignMonitor) (b : Burst) :
    PointOnly p s (s.endBurst p m b) := by
  unfold State.endBurst
  split
  · exact ⟨rfl, fun _ hq hne => s.field.setMonitor_monitor_of_ne hp hq hne _, [], by simp, by simp⟩
  · exact .monitorEvent hp ..

/-- A command that does something or nothing, each of which is a matter of the point, is a matter of the point. -/
theorem PointOnly.ite {p : Nat} {s t : State} (c : Prop) [Decidable c] (h : PointOnly p s t) :
    PointOnly p s (if c then t else s) := by
  split
  · exact h
  · exact .refl p s

/-! ### The lamp's settings, and those of the other monitors -/

theorem State.lampSettings_eq {s : State} {p out day cycle : Nat}
    (h : (s.pointConfig p).settings = .lamp out day cycle) : s.lampSettings p = (out, day, cycle) := by
  simp [State.lampSettings, h]

theorem State.loopSettings_eq {s : State} {p sens stuck chatter : Nat}
    (h : (s.pointConfig p).settings = .loop sens stuck chatter) : s.loopSettings p = (sens, stuck, chatter) := by
  simp [State.loopSettings, h]

theorem State.heartbeatLimit_eq {s : State} {p hb : Nat} (h : (s.pointConfig p).settings = .sign hb) :
    s.heartbeatLimit p = hb := by
  simp [State.heartbeatLimit, h]

theorem State.supplySettings_eq {s : State} {p loss restore : Nat}
    (h : (s.pointConfig p).settings = .supply loss restore) : s.supplySettings p = (loss, restore) := by
  simp [State.supplySettings, h]

/-! ### The commands at a lamp -/

section Lamp
variable {s : State} {p : Nat} {m : LampMonitor} (hm : s.field.monitor p = .lamp m)
include hm

theorem outConfirm_at_lamp : outConfirm p s =
    if s.field.settleEnd = none ∧ s.field.duskOn = true ∧ m.current = false ∧
        max m.changedAt s.field.settleEndedAt + (s.lampSettings p).1 * 100 ≤ s.now
      then s.lampJudged p m (condJoin .lampOut m.present) else s := by
  simp only [outConfirm, hm, Bool.and_eq_true, decide_eq_true_eq, Option.isNone_iff_eq_none,
    Bool.not_eq_true', and_assoc]
  rfl

theorem outClear_at_lamp : outClear p s =
    if s.field.settleEnd = none ∧ m.current = true ∧ max m.changedAt s.field.settleEndedAt + 500 ≤ s.now
      then s.lampJudged p m (condLeave .lampOut m.present) else s := by
  simp only [outClear, hm, Bool.and_eq_true, decide_eq_true_eq, Option.isNone_iff_eq_none, and_assoc]
  rfl

theorem dayburnConfirm_at_lamp : dayburnConfirm p s =
    if s.field.settleEnd = none ∧ s.field.duskOn = false ∧ m.current = true ∧
        max m.changedAt s.field.settleEndedAt + (s.lampSettings p).2.1 * 100 ≤ s.now
      then s.lampJudged p m (condJoin .lampDayburn m.present) else s := by
  simp only [dayburnConfirm, hm, Bool.and_eq_true, decide_eq_true_eq, Option.isNone_iff_eq_none,
    Bool.not_eq_true', and_assoc]
  rfl

theorem dayburnClear_at_lamp : dayburnClear p s =
    if s.field.settleEnd = none ∧ m.current = false ∧ max m.changedAt s.field.settleEndedAt + 500 ≤ s.now
      then s.lampJudged p m (condLeave .lampDayburn m.present) else s := by
  simp only [dayburnClear, hm, Bool.and_eq_true, decide_eq_true_eq, Option.isNone_iff_eq_none,
    Bool.not_eq_true', and_assoc]
  rfl

/-- A current change that is no cycle only restarts the intervals. -/
theorem lampCurrentChange_at_lamp (present : Bool) : lampCurrentChange p present s =
    if m.current = present ∨ m.sampledAt = s.now then s
    else if present = false ∧ s.field.duskOn = true ∧ s.field.duskChangedAt ≠ some s.now then
      s.readDusk.lampEvent p
        { m with current := present, changedAt := s.now, sampledAt := s.now
                 cycle := cycleAfter (s.lampSettings p).2.2 s.now m.cycle }
        (condSet .lampCycling
          (crowded (s.lampSettings p).2.2 Config.cyclingWindow s.now (cycleAfter (s.lampSettings p).2.2 s.now m.cycle))
          m.present)
    else s.lampEvent p { m with current := present, changedAt := s.now, sampledAt := s.now } m.present := by
  simp [lampCurrentChange, hm, and_assoc]

theorem cyclingWindowExpiry_at_lamp : cyclingWindowExpiry p s =
    if m.cycle.length = (s.lampSettings p).2.2 ∧ oldestLeft Config.cyclingWindow s.now m.cycle = true
      then s.lampEvent p m (condLeave .lampCycling m.present) else s := by
  simp [cyclingWindowExpiry, hm]

end Lamp

section NoLamp
variable {s : State} {p : Nat} (hm : ∀ m, s.field.monitor p ≠ .lamp m)
include hm

theorem outConfirm_elsewhere : outConfirm p s = s := by
  cases h : s.field.monitor p <;> simp_all [outConfirm]

theorem outClear_elsewhere : outClear p s = s := by
  cases h : s.field.monitor p <;> simp_all [outClear]

theorem dayburnConfirm_elsewhere : dayburnConfirm p s = s := by
  cases h : s.field.monitor p <;> simp_all [dayburnConfirm]

theorem dayburnClear_elsewhere : dayburnClear p s = s := by
  cases h : s.field.monitor p <;> simp_all [dayburnClear]

theorem lampCurrentChange_elsewhere (present : Bool) : lampCurrentChange p present s = s := by
  cases h : s.field.monitor p <;> simp_all [lampCurrentChange]

theorem cyclingWindowExpiry_elsewhere : cyclingWindowExpiry p s = s := by
  cases h : s.field.monitor p <;> simp_all [cyclingWindowExpiry]

end NoLamp

/-! ### The commands at a loop -/

/-- The onset of a gate: the agreed state has become OCCUPIED (R72). -/
def LoopMonitor.onsetAt (m : LoopMonitor) (sens now count : Nat) : Bool :=
  becomes m.agreed (m.gate sens now count).agreed .occupied

/-- The onsets after a gate (R72). -/
def LoopMonitor.onsetsAfter (m : LoopMonitor) (sens chatter now count : Nat) : List Nat :=
  if m.onsetAt sens now count then pushTime (chatter + 1) now m.onsets else m.onsets

/-- The set after a gate (R71 to R73). -/
def LoopMonitor.presentAfter (m : LoopMonitor) (sens stuck chatter now count : Nat) : List Condition :=
  let judged := stuckAfter stuck now (m.gate sens now count) (rangeAfter m.agreed (m.gate sens now count) m.present)
  if m.onsetAt sens now count then
    condSet .loopChatter (crowded (chatter + 1) Config.chatterWindow now (m.onsetsAfter sens chatter now count)) judged
  else judged

/-- The loop monitor after a gate of a count (R67 to R73). -/
def LoopMonitor.afterGate (m : LoopMonitor) (sens stuck chatter now count : Nat) : LoopMonitor :=
  { m.gate sens now count with
    onsets := m.onsetsAfter sens chatter now count, present := m.presentAfter sens stuck chatter now count }

/-- The reference after a period: the first baseline (R70). -/
def LoopMonitor.nextReference (m : LoopMonitor) : Option Nat := m.reference.orElse (fun _ => m.nextBaseline)

/-- The set after a period: DRIFT is judged where there is a baseline and a reference (R74). -/
def LoopMonitor.presentAtBoundary (m : LoopMonitor) : List Condition :=
  match m.nextBaseline, m.nextReference with
  | some b, some r => driftAfter b r m.present
  | _, _ => m.present

section Loop
variable {s : State} {p : Nat} {m : LoopMonitor} (hm : s.field.monitor p = .loop m)
include hm

theorem loopGateEnd_at_loop {sens stuck chatter : Nat} (hs : s.loopSettings p = (sens, stuck, chatter)) (edges : Nat) :
    loopGateEnd p edges s =
      if m.gateStart + 5 ≤ s.now ∧ m.gates < 16 then
        s.monitorEvent p (.loop (m.afterGate sens stuck chatter s.now (min (m.gateCount + edges) 65535))) m.present
          (m.presentAfter sens stuck chatter s.now (min (m.gateCount + edges) 65535))
      else s := by
  simp only [loopGateEnd, hm, hs, Config.gateTicks]
  rfl

theorem loopBaselinePeriodEnd_at_loop : loopBaselinePeriodEnd p s =
    if m.gates = 16 then
      s.monitorEvent p
        (.loop { m with
          gates := 0, sum := 0, eligible := 0, baseline := m.nextBaseline
          reference := m.nextReference, present := m.presentAtBoundary })
        m.present m.presentAtBoundary
    else s := by
  simp only [loopBaselinePeriodEnd, hm]
  rfl

theorem chatterWindowExpiry_at_loop : chatterWindowExpiry p s =
    if m.onsets.length = (s.loopSettings p).2.2 + 1 ∧ oldestLeft Config.chatterWindow s.now m.onsets = true then
      s.monitorEvent p (.loop { m with present := condLeave .loopChatter m.present }) m.present
        (condLeave .loopChatter m.present)
    else s := by
  simp [chatterWindowExpiry, hm]

end Loop

section NoLoop
variable {s : State} {p : Nat} (hm : ∀ m, s.field.monitor p ≠ .loop m)
include hm

theorem loopGateEnd_elsewhere (edges : Nat) : loopGateEnd p edges s = s := by
  cases h : s.field.monitor p <;> simp_all [loopGateEnd]

theorem loopBaselinePeriodEnd_elsewhere : loopBaselinePeriodEnd p s = s := by
  cases h : s.field.monitor p <;> simp_all [loopBaselinePeriodEnd]

theorem chatterWindowExpiry_elsewhere : chatterWindowExpiry p s = s := by
  cases h : s.field.monitor p <;> simp_all [chatterWindowExpiry]

end NoLoop

/-! ### The commands at a sign -/

section Sign
variable {s : State} {p : Nat} {m : SignMonitor} (hm : s.field.monitor p = .sign m)
include hm

theorem signBurstEnd_of_burst {b : Burst} (hb : m.burst = some b) : signBurstEnd p s =
    if b.gapStart + 20 ≤ s.now then s.endBurst p m b else s := by
  simp only [signBurstEnd, hm, hb]
  rfl

theorem signBurstEnd_of_none (hb : m.burst = none) : signBurstEnd p s = s := by
  simp [signBurstEnd, hm, hb]

theorem noHeartbeat_of_running {start : Nat} (hh : m.heartbeatStart = some start) : noHeartbeat p s =
    if start + s.heartbeatLimit p * 100 ≤ s.now then
      s.monitorEvent p
        (.sign { m with memory := none, heartbeatStart := none, present := condJoin .signNoHeartbeat m.present })
        m.present (condJoin .signNoHeartbeat m.present)
    else s := by
  simp only [noHeartbeat, hm, hh]
  rfl

theorem noHeartbeat_of_stopped (hh : m.heartbeatStart = none) : noHeartbeat p s = s := by
  simp [noHeartbeat, hm, hh]

/-- A pulse while no burst has outlived its gap. -/
theorem signPulse_in_time (hb : ∀ b, m.burst = some b → s.now ≤ b.gapStart + 20) :
    signPulse p s = { s with field := s.field.setMonitor p (.sign (m.pulse s.now)) } := by
  cases h : m.burst with
  | none => simp [signPulse, hm, h]
  | some b => simp [signPulse, hm, h, Nat.not_lt.2 (hb b h)]

/-- A burst whose gap has passed ends before the pulse is taken (log 3). -/
theorem signPulse_overdue {b : Burst} {n : SignMonitor} (hb : m.burst = some b) (h : b.gapStart + 20 < s.now)
    (hn : (s.endBurst p m b).field.monitor p = .sign n) : signPulse p s =
      { s.endBurst p m b with field := (s.endBurst p m b).field.setMonitor p (.sign (n.pulse s.now)) } := by
  have overdue : b.gapStart + Config.burstGapTicks < s.now := h
  simp only [signPulse, hm, hb, if_pos overdue, hn]

end Sign

section NoSign
variable {s : State} {p : Nat} (hm : ∀ m, s.field.monitor p ≠ .sign m)
include hm

theorem signPulse_elsewhere : signPulse p s = s := by
  cases h : s.field.monitor p <;> simp_all [signPulse]

theorem signBurstEnd_elsewhere : signBurstEnd p s = s := by
  cases h : s.field.monitor p <;> simp_all [signBurstEnd]

theorem noHeartbeat_elsewhere : noHeartbeat p s = s := by
  cases h : s.field.monitor p <;> simp_all [noHeartbeat]

end NoSign

/-! ### The commands at a supply -/

section Supply
variable {s : State} {p : Nat} {m : SupplyMonitor} (hm : s.field.monitor p = .supply m)
include hm

theorem supplyContactChange_at_supply (closed : Bool) : supplyContactChange p closed s =
    if m.closed = closed ∨ m.sampledAt = s.now then s
    else { s with field :=
      s.field.setMonitor p (.supply { m with closed := closed, changedAt := s.now, sampledAt := s.now }) } := by
  simp [supplyContactChange, hm]

theorem supplyLossConfirm_at_supply : supplyLossConfirm p s =
    if m.closed = false ∧ m.changedAt + (s.supplySettings p).1 * 100 ≤ s.now then
      s.monitorEvent p (.supply { m with sampledAt := s.now, present := condJoin .supplyLoss m.present }) m.present
        (condJoin .supplyLoss m.present)
    else s := by
  simp only [supplyLossConfirm, hm, Bool.and_eq_true, decide_eq_true_eq, Bool.not_eq_true']
  rfl

theorem supplyRestoreConfirm_at_supply : supplyRestoreConfirm p s =
    if m.closed = true ∧ m.changedAt + (s.supplySettings p).2 * 100 ≤ s.now then
      s.monitorEvent p (.supply { m with sampledAt := s.now, present := condLeave .supplyLoss m.present }) m.present
        (condLeave .supplyLoss m.present)
    else s := by
  simp only [supplyRestoreConfirm, hm, Bool.and_eq_true, decide_eq_true_eq]
  rfl

end Supply

section NoSupply
variable {s : State} {p : Nat} (hm : ∀ m, s.field.monitor p ≠ .supply m)
include hm

theorem supplyContactChange_elsewhere (closed : Bool) : supplyContactChange p closed s = s := by
  cases h : s.field.monitor p <;> simp_all [supplyContactChange]

theorem supplyLossConfirm_elsewhere : supplyLossConfirm p s = s := by
  cases h : s.field.monitor p <;> simp_all [supplyLossConfirm]

theorem supplyRestoreConfirm_elsewhere : supplyRestoreConfirm p s = s := by
  cases h : s.field.monitor p <;> simp_all [supplyRestoreConfirm]

end NoSupply

end Sys2Proof.Machine

/-!
PROOFS. The point monitors (chapter 3): the lamp's, the loop's, the sign's and the supply's judgements, and the frame of
the commands of one point.
-/
namespace Sys2Proof.Machine

/-! ### Commands that name a point -/

/-- A command whose check passes answers its effect. -/
theorem exec_yields {i : Instr} {s t : State} (ok : i.wellFormed = true) (h : effect i s = t) :
    exec i s = .next t := by
  rw [exec_of_wellFormed ok, h]

theorem oldestLeft_cons (window now oldest : Nat) (rest : List Nat) :
    oldestLeft window now (oldest :: rest) = true ↔ oldest + window ≤ now := by
  simp [oldestLeft]

/-- A list with no oldest time beyond the window has none that left it. -/
theorem oldestLeft_eq_false {window now : Nat} {l : List Nat} (h : ∀ oldest, l.head? = some oldest → now < oldest + window) :
    oldestLeft window now l = false := by
  cases l with
  | nil => rfl
  | cons x l => simpa [oldestLeft] using h x rfl

/-- A list that a time has just entered is crowded when it is full and its oldest lies within the window. -/
theorem crowded_iff {l : List Nat} (hl : l ≠ []) (cap window now : Nat) :
    crowded cap window now l = true ↔ l.length = cap ∧ now - l.headD 0 < window := by
  cases l with
  | nil => exact absurd rfl hl
  | cons x l => simp [crowded]

theorem pushTime_ne_nil (cap now : Nat) (l : List Nat) : pushTime cap now l ≠ [] := by
  simp [pushTime]

/-! ### OUT and DAYBURN (R61 to R63) -/

/-- Settles O8: each of the four commands is one test, and the test's two answers are the two halves. -/
theorem lampOutAndDayburnAreJudged : Obligations.LampOutAndDayburnAreJudged := by
  refine ⟨?out, ?dayburn, ?untimely, ?elsewhere⟩
  case out =>
    intro p s m out day cycle hp hm hs settled
    refine ⟨fun dusk dark time => ?_, fun lit time => ?_⟩
    · refine exec_yields hp ?_
      rw [effect, outConfirm_at_lamp hm, State.lampSettings_eq hs,
        if_pos ⟨settled, dusk, dark, time⟩]
      rfl
    · refine exec_yields hp ?_
      rw [effect, outClear_at_lamp hm, if_pos ⟨settled, lit, time⟩]
      rfl
  case dayburn =>
    intro p s m out day cycle hp hm hs settled
    refine ⟨fun dusk lit time => ?_, fun dark time => ?_⟩
    · refine exec_yields hp ?_
      rw [effect, dayburnConfirm_at_lamp hm, State.lampSettings_eq hs,
        if_pos ⟨settled, dusk, lit, time⟩]
      rfl
    · refine exec_yields hp ?_
      rw [effect, dayburnClear_at_lamp hm, if_pos ⟨settled, dark, time⟩]
      rfl
  case untimely =>
    rintro p s m out day cycle since settling hp hm hs rfl rfl
    refine ⟨fun h => exec_yields hp ?_, fun h => exec_yields hp ?_, fun h => exec_yields hp ?_,
      fun h => exec_yields hp ?_⟩
    · rw [effect, outConfirm_at_lamp hm, State.lampSettings_eq hs, if_neg]
      rintro ⟨settled, dusk, dark, time⟩
      simp_all [Nat.not_lt.2 time]
    · rw [effect, outClear_at_lamp hm, if_neg]
      rintro ⟨settled, lit, time⟩
      simp_all [Nat.not_lt.2 time]
    · rw [effect, dayburnConfirm_at_lamp hm, State.lampSettings_eq hs, if_neg]
      rintro ⟨settled, dusk, lit, time⟩
      simp_all [Nat.not_lt.2 time]
    · rw [effect, dayburnClear_at_lamp hm, if_neg]
      rintro ⟨settled, dark, time⟩
      simp_all [Nat.not_lt.2 time]
  case elsewhere =>
    intro p i s hp hm hi
    simp only [List.mem_cons, List.not_mem_nil, or_false] at hi
    obtain rfl | rfl | rfl | rfl := hi
    · exact exec_yields hp (outConfirm_elsewhere hm)
    · exact exec_yields hp (outClear_elsewhere hm)
    · exact exec_yields hp (dayburnConfirm_elsewhere hm)
    · exact exec_yields hp (dayburnClear_elsewhere hm)

/-! ### The dusk input (R61) -/

/-- What a change of dusk does to the field side. -/
theorem duskChange_of_fresh {s : State} {on : Bool} (run : s.running = true) (hne : s.field.duskOn ≠ on)
    (fresh : s.field.duskSampledAt ≠ s.now) : duskChange on s =
      { s with
        field := { s.field with
          duskOn := on, duskSampledAt := s.now, duskChangedAt := some s.now
          settleEnd := some (s.now + Config.settleTicks)
          monitors := if on then s.field.monitors.map Monitor.duskOn else s.field.monitors }
        origin := s.origin.handReports (if on then
          allPoints.flatMap (fun p => reportsOf p (s.field.monitor p).present (s.field.monitor p).duskOn.present)
          else []) } := by
  have test : (s.running && s.field.duskOn != on && s.field.duskSampledAt != s.now) = true := by simp [*]
  simp only [duskChange, if_pos test]

theorem duskChange_of_not {s : State} {on : Bool}
    (h : s.loader.profile = none ∨ s.field.duskOn = on ∨ s.field.duskSampledAt = s.now) : duskChange on s = s := by
  have test : ¬(s.running && s.field.duskOn != on && s.field.duskSampledAt != s.now) = true := by
    obtain h | h | h := h <;> simp [State.running, h]
  simp only [duskChange, if_neg test]

theorem duskSettleEnd_of_due {s : State} {e : Nat} (h : s.field.settleEnd = some e) (he : e ≤ s.now) :
    duskSettleEnd s = { s with field := { s.field with settleEnd := none, settleEndedAt := e } } := by
  simp [duskSettleEnd, h, he]

theorem duskSettleEnd_of_not {s : State} (h : ∀ e, s.field.settleEnd = some e → s.now < e) : duskSettleEnd s = s := by
  cases hs : s.field.settleEnd with
  | none => simp [duskSettleEnd, hs]
  | some e => simp [duskSettleEnd, hs, Nat.not_le.2 (h e hs)]

/-- The monitor behind a point after dusk has turned on. -/
theorem Field.monitor_map_duskOn (f : Field) (p : Nat) :
    Field.monitor { f with monitors := f.monitors.map Monitor.duskOn } p = (f.monitor p).duskOn := by
  by_cases hp : p = 0
  · simp [Field.monitor, hp, Monitor.duskOn]
  · simp only [Field.monitor, if_neg hp, List.getD_eq_getElem?_getD, List.getElem?_map]
    cases f.monitors[p - 1]? <;> rfl

theorem mem_allPoints (p : Nat) : p ∈ allPoints ↔ pointOk p = true := by
  simp only [allPoints, List.mem_map, List.mem_range, pointOk, Bool.and_eq_true, decide_eq_true_eq]
  exact ⟨by rintro ⟨x, hx, rfl⟩; omega, fun h => ⟨p - 1, by omega, by omega⟩⟩

/-- The reports of one monitor as dusk turns on: a clear of DAYBURN, from a lamp that held it (R63). -/
theorem mem_reportsOf_duskOn (m : Monitor) (p : Nat) (r : ConditionReport) :
    r ∈ reportsOf p m.present m.duskOn.present ↔ r.point = p ∧ r.condition = .lampDayburn ∧ r.raise = false ∧
      ∃ l, m = .lamp l ∧ .lampDayburn ∈ l.present := by
  cases m with
  | lamp l =>
    have leaves : r.condition ∈ l.present ∧ r.condition ∉ condLeave .lampDayburn l.present ↔
        r.condition = .lampDayburn ∧ .lampDayburn ∈ l.present := by
      constructor
      · rintro ⟨here, gone⟩
        have e : r.condition = .lampDayburn := by
          by_contra hne
          exact gone ((mem_condLeave ..).2 ⟨here, hne⟩)
        exact ⟨e, e ▸ here⟩
      · rintro ⟨e, here⟩
        exact ⟨e ▸ here, by simp [mem_condLeave, e]⟩
    have joins : ¬(r.condition ∈ condLeave .lampDayburn l.present ∧ r.condition ∉ l.present) :=
      fun ⟨h, h'⟩ => h' ((mem_condLeave ..).1 h).1
    simp only [mem_reportsOf, Monitor.present, Monitor.duskOn, joins, and_false, false_or, leaves]
    simp only [Monitor.lamp.injEq, exists_eq_left']
    tauto
  | _ => simp [Monitor.duskOn, reportsOf_self]

/-- Settles O9: the dusk change by its three tests, the monitors and the reports by what dusk does at one point. -/
theorem duskChangeRestartsTheSettle : Obligations.DuskChangeRestartsTheSettle := by
  intro s
  refine ⟨fun on run hne fresh => ?change, fun on h => ?again, fun e he hdue => ?settled, fun on h => ?unread,
    fun h => ?early⟩
  case change =>
    refine ⟨effect (.duskChange on) s, exec_of_wellFormed rfl s, ?_⟩
    rw [effect, duskChange_of_fresh run hne fresh]
    refine ⟨rfl, rfl, rfl, rfl, rfl, rfl, rfl, fun p => ?monitor, fun r => ?reports⟩
    case monitor =>
      cases on with
      | false => cases h : s.field.monitor p <;> exact h
      | true =>
        refine (s.field.monitor_map_duskOn p).trans ?_
        cases s.field.monitor p <;> rfl
    case reports =>
      cases on with
      | false => simp
      | true =>
        simp only [OriginUnit.handReports_reportsIn, List.mem_append, if_true, List.mem_flatMap, mem_allPoints,
          mem_reportsOf_duskOn]
        refine or_congr_right ⟨?_, ?_⟩
        · rintro ⟨p, hp, rfl, hc, hr, l, hl⟩
          exact ⟨trivial, hc, hr, hp, l, hl⟩
        · rintro ⟨-, hc, hr, hp, l, hl⟩
          exact ⟨r.point, hp, rfl, hc, hr, l, hl⟩
  case again => exact exec_yields rfl (duskChange_of_not (.inr h))
  case settled => exact exec_yields rfl (duskSettleEnd_of_due he hdue)
  case unread => exact exec_yields rfl (duskChange_of_not (.inl h))
  case early => exact exec_yields rfl (duskSettleEnd_of_not h)

/-! ### CYCLING (R64) -/

/-- Settles O10: a current change by its two tests, and the window's expiry by one. -/
theorem lampCyclingIsJudged : Obligations.LampCyclingIsJudged := by
  refine ⟨fun p s m out day cycle hp hm hs => ⟨?plain, ?seen, ?cycle, ?expiry, ?untimely⟩, ?elsewhere⟩
  case plain =>
    intro present hne fresh h
    have plain : ¬(present = false ∧ s.field.duskOn = true ∧ s.field.duskChangedAt ≠ some s.now) := by
      rintro ⟨rfl, dusk, hne⟩
      simp_all
    refine exec_yields hp ?_
    rw [effect, lampCurrentChange_at_lamp hm, if_neg (not_or.2 ⟨hne, fresh⟩), if_neg plain,
      State.lampEvent, State.monitorEvent, reportsOf_self]
    simp [OriginUnit.handReports]
  case seen =>
    intro present h
    exact exec_yields hp (by rw [effect, lampCurrentChange_at_lamp hm, if_pos h])
  case cycle =>
    rintro lit fresh dusk hne list after rfl rfl
    have judged : condSet .lampCycling (crowded cycle Config.cyclingWindow s.now (cycleAfter cycle s.now m.cycle))
        m.present = if (cycleAfter cycle s.now m.cycle).length = cycle ∧
          s.now - (cycleAfter cycle s.now m.cycle).headD 0 < 180000
        then condJoin .lampCycling m.present else condLeave .lampCycling m.present := by
      simp only [condSet, crowded_iff (pushTime_ne_nil cycle s.now m.cycle), cycleAfter]
      rfl
    refine exec_yields hp ?_
    rw [effect, lampCurrentChange_at_lamp hm, if_neg (by simp [lit, fresh]),
      if_pos ⟨rfl, dusk, hne⟩, State.lampSettings_eq hs]
    rw [judged]
    rfl
  case expiry =>
    intro oldest rest hcycle full left
    refine exec_yields hp ?_
    rw [effect, cyclingWindowExpiry_at_lamp hm, State.lampSettings_eq hs,
      if_pos ⟨full, by rw [hcycle, oldestLeft_cons]; exact left⟩]
    rfl
  case untimely =>
    intro h
    refine exec_yields hp ?_
    rw [effect, cyclingWindowExpiry_at_lamp hm, State.lampSettings_eq hs, if_neg]
    rintro ⟨full, left⟩
    obtain h | h := h
    · exact h full
    · simp [oldestLeft_eq_false h] at left
  case elsewhere =>
    intro p present s hp hm
    exact ⟨exec_yields hp (lampCurrentChange_elsewhere hm present),
      exec_yields hp (cyclingWindowExpiry_elsewhere hm)⟩

/-! ### SUPPLY (R80) -/

/-- Settles O14: a contact change and the two confirmations, each one test. -/
theorem supplyLossIsJudged : Obligations.SupplyLossIsJudged := by
  refine ⟨fun p s m loss restore hp hm hs => ⟨?change, ?seen, ?loss, ?restore, ?noLoss, ?noRestore⟩, ?elsewhere⟩
  case change =>
    intro closed hne fresh
    refine exec_yields hp ?_
    rw [effect, supplyContactChange_at_supply hm, if_neg (not_or.2 ⟨hne, fresh⟩)]
  case seen =>
    intro closed h
    exact exec_yields hp (by rw [effect, supplyContactChange_at_supply hm, if_pos h])
  case loss =>
    intro opened time
    refine exec_yields hp ?_
    rw [effect, supplyLossConfirm_at_supply hm, State.supplySettings_eq hs,
      if_pos ⟨opened, time⟩]
    rfl
  case restore =>
    intro closed time
    refine exec_yields hp ?_
    rw [effect, supplyRestoreConfirm_at_supply hm, State.supplySettings_eq hs,
      if_pos ⟨closed, time⟩]
    rfl
  case noLoss =>
    intro h
    refine exec_yields hp ?_
    rw [effect, supplyLossConfirm_at_supply hm, State.supplySettings_eq hs, if_neg]
    rintro ⟨opened, time⟩
    simp_all [Nat.not_lt.2 time]
  case noRestore =>
    intro h
    refine exec_yields hp ?_
    rw [effect, supplyRestoreConfirm_at_supply hm, State.supplySettings_eq hs, if_neg]
    rintro ⟨closed, time⟩
    simp_all [Nat.not_lt.2 time]
  case elsewhere =>
    intro p closed i s hp hm hi
    simp only [List.mem_cons, List.not_mem_nil, or_false] at hi
    obtain rfl | rfl | rfl := hi
    · exact exec_yields hp (supplyContactChange_elsewhere hm closed)
    · exact exec_yields hp (supplyLossConfirm_elsewhere hm)
    · exact exec_yields hp (supplyRestoreConfirm_elsewhere hm)

end Sys2Proof.Machine

/-!
PROOFS. The loop's gate, period and chatter window, the sign's pulses and bursts, and the frame of the commands of one
point (R60, R67 to R79, R81).
-/
namespace Sys2Proof.Machine

/-! ### The class of a gate and the agreed state (R67, R68) -/

/-- With a baseline every count has a class. -/
theorem classOf_baseline (sens b count : Nat) : classOf sens (some b) count =
    some (if count < 500 then .low else if 10000 < count then .high
      else if b + b * sens / 256 ≤ count then .occupied else .vacant) := by
  simp only [classOf, occupancyThreshold]
  split
  · rfl
  · split
    · rfl
    · exact (apply_ite some _ _ _).symm

theorem inRange_iff (count : Nat) : inRange count = true ↔ 500 ≤ count ∧ count ≤ 10000 := by
  simp [inRange]

/-- Neither LOW nor HIGH is the class of a count in range (R67). -/
theorem inRange_of_classOf {sens count : Nat} {baseline : Option Nat}
    (h : classOf sens baseline count = some .low ∨ classOf sens baseline count = some .high) : inRange count = false := by
  by_contra hr
  obtain ⟨lo, hi⟩ := (inRange_iff count).1 (by simpa using hr)
  simp only [classOf, Nat.not_lt.2 lo, Nat.not_lt.2 hi, if_false] at h
  cases baseline with
  | none => simp at h
  | some b => by_cases hb : b + occupancyThreshold b sens ≤ count <;> simp [hb] at h

section Gate
variable (m : LoopMonitor) (sens now count : Nat)

@[simp] theorem LoopMonitor.gate_inRangeRun :
    (m.gate sens now count).inRangeRun = if inRange count then m.inRangeRun + 1 else 0 := rfl

/-- A class is agreed on the second gate of it, while a baseline exists (R68, R70). -/
def LoopMonitor.turns : Bool :=
  m.baseline.isSome && decide (m.lastClass = classOf sens m.baseline count) &&
    decide (m.agreed ≠ classOf sens m.baseline count)

theorem LoopMonitor.gate_agreed : (m.gate sens now count).agreed =
    if m.turns sens count then classOf sens m.baseline count else m.agreed := rfl

theorem LoopMonitor.gate_agreedAt : (m.gate sens now count).agreedAt =
    if m.turns sens count then now else m.agreedAt := rfl

theorem LoopMonitor.turns_iff : m.turns sens count = true ↔
    m.baseline.isSome = true ∧ m.lastClass = classOf sens m.baseline count ∧
      m.agreed ≠ classOf sens m.baseline count := by
  simp [LoopMonitor.turns, and_assoc]

/-- A gate that changes the agreed state takes the gate's class, at that moment. -/
theorem LoopMonitor.gate_agreedAt_eq : (m.gate sens now count).agreedAt =
    if (m.gate sens now count).agreed = m.agreed then m.agreedAt else now := by
  rw [LoopMonitor.gate_agreed, LoopMonitor.gate_agreedAt]
  by_cases h : m.turns sens count = true
  · obtain ⟨-, -, hne⟩ := (m.turns_iff sens count).1 h
    simp [h, Ne.symm hne]
  · simp [h]

theorem becomes_iff (before after : Option GateClass) (c : GateClass) :
    becomes before after c = true ↔ after = some c ∧ before ≠ some c := by
  simp [becomes]

/-- A gate that agrees LOW or HIGH is out of range, so the run of gates in range begins anew. -/
theorem LoopMonitor.gate_run_of_becomes {c : GateClass} (hc : c = .low ∨ c = .high)
    (h : becomes m.agreed (m.gate sens now count).agreed c = true) : (m.gate sens now count).inRangeRun = 0 := by
  obtain ⟨after, before⟩ := (becomes_iff ..).1 h
  rw [LoopMonitor.gate_agreed] at after
  split at after
  · have out : inRange count = false :=
      inRange_of_classOf (sens := sens) (baseline := m.baseline) (by obtain rfl | rfl := hc <;> simp [after])
    simp [out]
  · exact absurd after before

end Gate

/-! ### The conditions after a gate (R71 to R73) -/

/-- A gate in range for 40 gates has removed both, and one raised now stands. -/
theorem mem_rangeAfter (before : Option GateClass) (m : LoopMonitor) (present : List Condition) (d : Condition)
    (raised : ∀ c, c = .low ∨ c = .high → becomes before m.agreed c = true → m.inRangeRun = 0) :
    d ∈ rangeAfter before m present ↔
      (d = .loopOpen ∧ becomes before m.agreed .low = true) ∨
      (d = .loopOutOfRange ∧ becomes before m.agreed .high = true) ∨
      (d ∈ present ∧ (d = .loopOpen ∨ d = .loopOutOfRange → m.inRangeRun < 40)) := by
  unfold rangeAfter
  by_cases low : becomes before m.agreed .low = true
  · have notHigh : ¬becomes before m.agreed .high = true := by
      rw [becomes_iff] at low ⊢
      simp [low.1]
    simp [low, notHigh, raised .low (.inl rfl) low, mem_condJoin]
  · by_cases high : becomes before m.agreed .high = true
    · simp [low, high, raised .high (.inr rfl) high, mem_condJoin]
    · simp only [low, high]
      by_cases run : 40 ≤ m.inRangeRun
      · simp only [run, if_true, mem_condLeave, Nat.not_lt.2 run]
        tauto
      · simp [run, Nat.not_le.1 run]

theorem mem_stuckAfter (stuck now : Nat) (m : LoopMonitor) (present : List Condition) :
    .loopStuck ∈ stuckAfter stuck now m present ↔ m.agreed = some .occupied ∧
      (m.agreedAt + stuck * 100 < now ∨ .loopStuck ∈ present) := by
  unfold stuckAfter
  by_cases occupied : m.agreed = some .occupied
  · by_cases time : m.agreedAt + stuck * Config.ticksPerSecond < now
    · simp only [occupied, time, if_true, mem_condJoin]
      simp only [Config.ticksPerSecond] at time
      simp [time]
    · simp only [occupied, time, if_true, if_false]
      simp only [Config.ticksPerSecond] at time
      simp [time]
  · simp [occupied, mem_condLeave]

theorem mem_stuckAfter_of_ne {d : Condition} (h : d ≠ .loopStuck) (stuck now : Nat) (m : LoopMonitor)
    (present : List Condition) : d ∈ stuckAfter stuck now m present ↔ d ∈ present := by
  unfold stuckAfter
  split
  · split <;> simp [mem_condJoin, h]
  · simp [mem_condLeave, h]

section PresentAfter
variable (m : LoopMonitor) (sens stuck chatter now count : Nat)

/-- The conditions that a gate judges before CHATTER. -/
theorem LoopMonitor.mem_presentAfter_of_ne {d : Condition} (h : d ≠ .loopChatter) :
    d ∈ m.presentAfter sens stuck chatter now count ↔
      d ∈ stuckAfter stuck now (m.gate sens now count) (rangeAfter m.agreed (m.gate sens now count) m.present) := by
  simp only [LoopMonitor.presentAfter]
  split
  · exact mem_condSet_of_ne h _ _
  · exact Iff.rfl

theorem LoopMonitor.mem_gate_rangeAfter (d : Condition) :
    d ∈ rangeAfter m.agreed (m.gate sens now count) m.present ↔
      (d = .loopOpen ∧ becomes m.agreed (m.gate sens now count).agreed .low = true) ∨
      (d = .loopOutOfRange ∧ becomes m.agreed (m.gate sens now count).agreed .high = true) ∨
      (d ∈ m.present ∧ (d = .loopOpen ∨ d = .loopOutOfRange → (m.gate sens now count).inRangeRun < 40)) :=
  mem_rangeAfter _ _ _ _ fun _ hc h => m.gate_run_of_becomes sens now count hc h

theorem LoopMonitor.mem_presentAfter_open : .loopOpen ∈ m.presentAfter sens stuck chatter now count ↔
    ((m.gate sens now count).agreed = some .low ∧ m.agreed ≠ some .low) ∨
      (.loopOpen ∈ m.present ∧ (m.gate sens now count).inRangeRun < 40) := by
  rw [m.mem_presentAfter_of_ne _ _ _ _ _ (by decide), mem_stuckAfter_of_ne (by decide), m.mem_gate_rangeAfter,
    becomes_iff]
  simp

theorem LoopMonitor.mem_presentAfter_outOfRange : .loopOutOfRange ∈ m.presentAfter sens stuck chatter now count ↔
    ((m.gate sens now count).agreed = some .high ∧ m.agreed ≠ some .high) ∨
      (.loopOutOfRange ∈ m.present ∧ (m.gate sens now count).inRangeRun < 40) := by
  rw [m.mem_presentAfter_of_ne _ _ _ _ _ (by decide), mem_stuckAfter_of_ne (by decide), m.mem_gate_rangeAfter,
    becomes_iff, becomes_iff]
  simp

theorem LoopMonitor.mem_presentAfter_stuck : .loopStuck ∈ m.presentAfter sens stuck chatter now count ↔
    (m.gate sens now count).agreed = some .occupied ∧
      ((m.gate sens now count).agreedAt + stuck * 100 < now ∨ .loopStuck ∈ m.present) := by
  rw [m.mem_presentAfter_of_ne _ _ _ _ _ (by decide), mem_stuckAfter, m.mem_gate_rangeAfter]
  simp

theorem LoopMonitor.mem_presentAfter_chatter_of_onset (h : m.onsetAt sens now count = true) :
    .loopChatter ∈ m.presentAfter sens stuck chatter now count ↔
      (pushTime (chatter + 1) now m.onsets).length = chatter + 1 ∧
        now - (pushTime (chatter + 1) now m.onsets).headD 0 < 6000 := by
  have onsets : m.onsetsAfter sens chatter now count = pushTime (chatter + 1) now m.onsets := by
    simp [LoopMonitor.onsetsAfter, h]
  simp only [LoopMonitor.presentAfter, h, if_true, onsets, mem_condSet]
  rw [crowded_iff (pushTime_ne_nil _ _ _)]
  simp only [Config.chatterWindow]
  tauto

theorem LoopMonitor.mem_presentAfter_chatter_of_no_onset (h : m.onsetAt sens now count = false) :
    .loopChatter ∈ m.presentAfter sens stuck chatter now count ↔ .loopChatter ∈ m.present := by
  simp only [LoopMonitor.presentAfter, h, Bool.false_eq_true, if_false]
  rw [mem_stuckAfter_of_ne (by decide), m.mem_gate_rangeAfter]
  simp

end PresentAfter

/-- Settles O11: the monitor after the gate, field by field. -/
theorem loopGateIsJudged : Obligations.LoopGateIsJudged := by
  refine ⟨?judged, ?untimely⟩
  case judged =>
    rintro p edges n s m sens stuck chatter hp hm hs time gates rfl
    refine ⟨m.afterGate sens stuck chatter s.now (min (m.gateCount + edges) 65535), exec_yields hp ?_, ?_⟩
    · rw [effect, loopGateEnd_at_loop hm (State.loopSettings_eq hs), if_pos ⟨time, gates⟩]
      rfl
    generalize min (m.gateCount + edges) 65535 = n
    have onset : m.onsetAt sens s.now n = true ↔
        (m.gate sens s.now n).agreed = some .occupied ∧ m.agreed ≠ some .occupied := becomes_iff ..
    refine ⟨rfl, rfl, rfl, rfl, rfl, ?run, ?unformed, ?formed, m.gate_agreedAt_eq sens s.now n,
      m.mem_presentAfter_open .., m.mem_presentAfter_outOfRange .., m.mem_presentAfter_stuck ..,
      fun h => ?onset, fun h => ?noOnset⟩
    case run => simp only [LoopMonitor.afterGate, LoopMonitor.gate_inRangeRun, inRange_iff]
    case unformed =>
      intro none
      have eligible : eligibleGate m.baseline (classOf sens m.baseline n) n = inRange n := by
        simp [eligibleGate, none]
      simp only [LoopMonitor.afterGate, LoopMonitor.gate, eligible, ← inRange_iff]
      simp +contextual [none]
    case formed =>
      rintro b c hb hc
      have cls : classOf sens m.baseline n = some c := by rw [hb, classOf_baseline, hc]
      have eligible : eligibleGate m.baseline (classOf sens m.baseline n) n = decide (c = .vacant) := by
        rw [cls]
        simp [eligibleGate, hb]
      have agreed : (m.gate sens s.now n).agreed = if m.lastClass = some c then some c else m.agreed := by
        rw [m.gate_agreed, ← cls]
        by_cases h : m.turns sens n = true
        · rw [if_pos h, if_pos ((m.turns_iff sens n).1 h).2.1]
        · rw [if_neg h]
          split
          · rename_i same
            by_contra hne
            exact h ((m.turns_iff sens n).2 ⟨by simp [hb], same, hne⟩)
          · rfl
      refine ⟨by simp [LoopMonitor.afterGate, LoopMonitor.gate, hb, ← cls], agreed, ?_, ?_⟩
      all_goals
        intro hv
        simp [LoopMonitor.afterGate, LoopMonitor.gate, eligible, hv]
    case onset =>
      have raised := onset.2 h
      refine ⟨by simp [LoopMonitor.afterGate, LoopMonitor.onsetsAfter, raised, pushTime], ?_⟩
      rw [LoopMonitor.afterGate]
      simp only [LoopMonitor.onsetsAfter, raised, if_true]
      exact m.mem_presentAfter_chatter_of_onset sens stuck chatter s.now n raised
    case noOnset =>
      have none : m.onsetAt sens s.now n = false := by
        rw [← Bool.not_eq_true, onset]
        exact h
      exact ⟨by simp [LoopMonitor.afterGate, LoopMonitor.onsetsAfter, none],
        m.mem_presentAfter_chatter_of_no_onset sens stuck chatter s.now n none⟩
  case untimely =>
    rintro p edges s hp (⟨m, hm, h⟩ | hm)
    · refine exec_yields hp ?_
      rw [effect, loopGateEnd_at_loop hm rfl, if_neg]
      omega
    · exact exec_yields hp (loopGateEnd_elsewhere hm edges)

/-! ### The period and the chatter window (R69, R70, R73, R74) -/

theorem mem_driftAfter_of_ne {c : Condition} (h : c ≠ .loopDrift) (baseline reference : Nat) (present : List Condition) :
    c ∈ driftAfter baseline reference present ↔ c ∈ present := by
  unfold driftAfter
  split
  · simp [mem_condJoin, h]
  · split <;> simp [mem_condLeave, h]

/-- Between the two bounds DRIFT stays as it was (R74). -/
theorem mem_driftAfter (baseline reference : Nat) (present : List Condition) :
    .loopDrift ∈ driftAfter baseline reference present ↔
      reference / 32 < distance baseline reference ∨
        (.loopDrift ∈ present ∧ reference / 64 < distance baseline reference) := by
  unfold driftAfter
  by_cases far : reference / 32 < distance baseline reference
  · simp [far, mem_condJoin]
  · by_cases near : distance baseline reference ≤ reference / 64
    · simp [far, near, mem_condLeave]
    · simp [far, near, Nat.not_le.1 near]

/-- Settles O12: the period's end and the window's expiry, each one test. -/
theorem loopPeriodAndWindowAreJudged : Obligations.LoopPeriodAndWindowAreJudged := by
  refine ⟨fun p s m sens stuck chatter hp hm hs => ⟨fun full => ?period, ?expiry, ?unfinished, ?untimely⟩, ?elsewhere⟩
  case period =>
    have reference : m.nextReference = (match m.reference with
        | some r => some r
        | none => if 8 ≤ m.eligible then some (m.sum / m.eligible) else m.baseline) := by
      unfold LoopMonitor.nextReference
      cases m.reference <;> rfl
    refine ⟨m.presentAtBoundary, exec_yields hp ?_, ?others, ?drift⟩
    · rw [effect, loopBaselinePeriodEnd_at_loop hm, if_pos full, reference]
      rfl
    case others =>
      intro c hc
      unfold LoopMonitor.presentAtBoundary
      split
      · exact mem_driftAfter_of_ne hc ..
      · rfl
    case drift =>
      intro b r hb hr
      have formed : m.nextBaseline = some b := hb
      simp only [LoopMonitor.presentAtBoundary, LoopMonitor.nextReference, formed, hr]
      exact mem_driftAfter ..
  case expiry =>
    intro oldest rest honsets full left
    refine exec_yields hp ?_
    rw [effect, chatterWindowExpiry_at_loop hm, State.loopSettings_eq hs,
      if_pos ⟨full, by rw [honsets, oldestLeft_cons]; exact left⟩]
    rfl
  case unfinished =>
    intro h
    exact exec_yields hp (by rw [effect, loopBaselinePeriodEnd_at_loop hm, if_neg h])
  case untimely =>
    intro h
    refine exec_yields hp ?_
    rw [effect, chatterWindowExpiry_at_loop hm, State.loopSettings_eq hs, if_neg]
    rintro ⟨full, left⟩
    obtain h | h := h
    · exact h full
    · simp [oldestLeft_eq_false h] at left
  case elsewhere =>
    intro p s hp hm
    exact ⟨exec_yields hp (loopBaselinePeriodEnd_elsewhere hm), exec_yields hp (chatterWindowExpiry_elsewhere hm)⟩

/-! ### The sign (R76 to R78) -/

/-- A monitor that stands behind a point is replaced by the one written there. -/
theorem Field.setMonitor_monitor_of_present {f : Field} {p : Nat} (h : f.monitor p ≠ .off) (m : Monitor) :
    (f.setMonitor p m).monitor p = m := by
  have hp : p ≠ 0 := fun hp => h (by simp [Field.monitor, hp])
  have hlt : p - 1 < f.monitors.length := by
    by_contra hge
    exact h (by simp [Field.monitor, hp, List.getD_eq_getElem?_getD, Nat.not_lt.1 hge])
  rw [Field.monitor, if_neg hp, List.getD_eq_getElem _ _ (by simpa using hlt)]
  exact List.getElem_set_self _

/-- After a burst has ended the sign holds none, and time has not moved. -/
theorem State.endBurst_monitor {s : State} {p : Nat} {m : SignMonitor} (hm : s.field.monitor p = .sign m) (b : Burst) :
    ∃ n, (s.endBurst p m b).field.monitor p = .sign n ∧ n.burst = none := by
  have present : s.field.monitor p ≠ .off := by simp [hm]
  unfold State.endBurst
  split
  · exact ⟨_, Field.setMonitor_monitor_of_present present _, rfl⟩
  · exact ⟨_, Field.setMonitor_monitor_of_present present _, rfl⟩

@[simp] theorem State.endBurst_time (s : State) (p : Nat) (m : SignMonitor) (b : Burst) :
    (s.endBurst p m b).time = s.time := by
  unfold State.endBurst
  split <;> rfl

theorem State.endBurst_malformed {b : Burst} (h : 8 ≤ b.pulses) (s : State) (p : Nat) (m : SignMonitor) :
    s.endBurst p m b = { s with field :=
      { s.field.setMonitor p (.sign { m with burst := none }) with
        malformedBursts := s.field.malformedBursts + 1 } } := by
  rw [State.endBurst, if_pos h]

theorem State.endBurst_valid {b : Burst} (h : b.pulses ≤ 7) (s : State) (p : Nat) (m : SignMonitor) :
    s.endBurst p m b = s.monitorEvent p
      (.sign { burst := none, memory := some (burstMeaning b.pulses), heartbeatStart := some s.now
               present := burstSet m.memory (burstMeaning b.pulses) m.present })
      m.present (burstSet m.memory (burstMeaning b.pulses) m.present) := by
  rw [State.endBurst, if_neg (by omega)]

/-- A pulse at a sign whose burst has outlived its gap is a pulse after the burst's end (log 3). -/
theorem signPulse_after_burst {s : State} {p : Nat} {m : SignMonitor} (hm : s.field.monitor p = .sign m) {b : Burst}
    (hb : m.burst = some b) (h : b.gapStart + 20 < s.now) : signPulse p s = signPulse p (s.endBurst p m b) := by
  obtain ⟨n, hn, none⟩ := State.endBurst_monitor hm b
  have now : (s.endBurst p m b).now = s.now := congrArg Timebase.now (s.endBurst_time p m b)
  rw [signPulse_overdue hm hb h hn, signPulse_in_time hn (by simp [none]), now]

/-- OK empties the set: all that a burst code can leave is NO-HEARTBEAT, which a valid burst removes. -/
theorem burstSet_ok (memory : Option SignMeaning) (present : List Condition) : burstSet memory .ok present = [] := by
  simp [burstSet, condLeave]

theorem mem_burstSet_fault (memory : Option SignMeaning) (c d : Condition) (present : List Condition) :
    d ∈ burstSet memory (.fault c) present ↔
      d ≠ .signNoHeartbeat ∧ (d ∈ present ∨ (d = c ∧ memory = some (.fault c))) := by
  simp only [burstSet, mem_condLeave]
  split
  · rename_i h
    simp only [mem_condJoin, h]
    tauto
  · rename_i h
    simp only [h]
    tauto

/-- A valid burst's meaning is that of its number of pulses (R77). -/
theorem burstMeaning_eq {n : Nat} {meaning : SignMeaning}
    (h : n = 1 ∧ meaning = .ok ∨ n = 2 ∧ meaning = .fault .signModule ∨ n = 3 ∧ meaning = .fault .signPower ∨
      n = 4 ∧ meaning = .fault .signDisplayMismatch ∨ 5 ≤ n ∧ meaning = .fault .signOther) :
    burstMeaning n = meaning := by
  obtain ⟨rfl, rfl⟩ | ⟨rfl, rfl⟩ | ⟨rfl, rfl⟩ | ⟨rfl, rfl⟩ | ⟨h, rfl⟩ := h
  case inr.inr.inr.inr =>
    obtain ⟨k, rfl⟩ := Nat.exists_eq_add_of_le' h
    rfl
  all_goals rfl

/-- Settles O13: the pulse by the burst in progress, the burst's end by its pulses, the silence by its limit. -/
theorem signPulsesAndBurstsAreJudged : Obligations.SignPulsesAndBurstsAreJudged := by
  refine ⟨fun p s m hp hm => ⟨?first, ?joins, ?overdue⟩, fun p s m hp hm => ⟨?malformed, ?valid, ?silence⟩,
    fun p s m hp hm => ⟨?early, ?heard⟩, ?elsewhere⟩
  case first =>
    intro hb
    refine exec_yields hp ?_
    rw [effect, signPulse_in_time hm (by simp [hb]), SignMonitor.pulse, hb]
  case joins =>
    intro b hb time
    refine exec_yields hp ?_
    rw [effect, signPulse_in_time hm (by simpa [hb] using time), SignMonitor.pulse, hb]
  case overdue =>
    intro b hb time
    refine ⟨s.endBurst p m b, exec_yields hp ?_, ?_⟩
    · rw [effect, signBurstEnd_of_burst hm hb, if_pos time.le]
    · rw [exec_yields (i := .signPulse p) hp (signPulse_after_burst hm hb time)]
      exact (exec_yields (i := .signPulse p) hp rfl).symm
  case malformed =>
    intro b hb time many
    refine exec_yields hp ?_
    rw [effect, signBurstEnd_of_burst hm hb, if_pos time, State.endBurst_malformed many]
  case valid =>
    intro b meaning hb time few means
    obtain rfl := burstMeaning_eq means
    refine ⟨burstSet m.memory (burstMeaning b.pulses) m.present, exec_yields hp ?_, fun ok => ?_, fun c fault d => ?_⟩
    · rw [effect, signBurstEnd_of_burst hm hb, if_pos time, State.endBurst_valid few]
      rfl
    · rw [ok, burstSet_ok]
    · rw [fault, mem_burstSet_fault]
  case silence =>
    intro start limit hstart hs time
    refine exec_yields hp ?_
    rw [effect, noHeartbeat_of_running hm hstart, State.heartbeatLimit_eq hs, if_pos time]
    rfl
  case early =>
    intro h
    refine exec_yields hp ?_
    cases hb : m.burst with
    | none => exact signBurstEnd_of_none hm hb
    | some b => rw [effect, signBurstEnd_of_burst hm hb, if_neg (Nat.not_le.2 (h b hb))]
  case heard =>
    intro limit hs h
    refine exec_yields hp ?_
    cases hh : m.heartbeatStart with
    | none => exact noHeartbeat_of_stopped hm hh
    | some start =>
      rw [effect, noHeartbeat_of_running hm hh, State.heartbeatLimit_eq hs, if_neg (Nat.not_le.2 (h start hh))]
  case elsewhere =>
    intro p i s hp hm hi
    simp only [List.mem_cons, List.not_mem_nil, or_false] at hi
    obtain rfl | rfl | rfl := hi
    · exact exec_yields hp (signPulse_elsewhere hm)
    · exact exec_yields hp (signBurstEnd_elsewhere hm)
    · exact exec_yields hp (noHeartbeat_elsewhere hm)

/-! ### The frame of the commands of one point (R60, R81) -/

section Frame
variable {p : Nat} (hp : pointOk p = true) (s : State)
include hp

theorem outConfirm_pointOnly : PointOnly p s (outConfirm p s) := by
  unfold outConfirm
  split
  · exact .ite _ (.lampJudged hp ..)
  · exact .refl p s

theorem outClear_pointOnly : PointOnly p s (outClear p s) := by
  unfold outClear
  split
  · exact .ite _ (.lampJudged hp ..)
  · exact .refl p s

theorem dayburnConfirm_pointOnly : PointOnly p s (dayburnConfirm p s) := by
  unfold dayburnConfirm
  split
  · exact .ite _ (.lampJudged hp ..)
  · exact .refl p s

theorem dayburnClear_pointOnly : PointOnly p s (dayburnClear p s) := by
  unfold dayburnClear
  split
  · exact .ite _ (.lampJudged hp ..)
  · exact .refl p s

theorem lampCurrentChange_pointOnly (present : Bool) : PointOnly p s (lampCurrentChange p present s) := by
  unfold lampCurrentChange
  split
  · split
    · exact .refl p s
    · dsimp only
      split
      · exact (PointOnly.readDusk p s).trans (.monitorEvent hp ..)
      · exact .monitorEvent hp ..
  · exact .refl p s

theorem cyclingWindowExpiry_pointOnly : PointOnly p s (cyclingWindowExpiry p s) := by
  unfold cyclingWindowExpiry
  split
  · exact .ite _ (.monitorEvent hp ..)
  · exact .refl p s

theorem loopGateEnd_pointOnly (edges : Nat) : PointOnly p s (loopGateEnd p edges s) := by
  unfold loopGateEnd
  split
  · exact .ite _ (.monitorEvent hp ..)
  · exact .refl p s

theorem loopBaselinePeriodEnd_pointOnly : PointOnly p s (loopBaselinePeriodEnd p s) := by
  unfold loopBaselinePeriodEnd
  split
  · exact .ite _ (.monitorEvent hp ..)
  · exact .refl p s

theorem chatterWindowExpiry_pointOnly : PointOnly p s (chatterWindowExpiry p s) := by
  unfold chatterWindowExpiry
  split
  · exact .ite _ (.monitorEvent hp ..)
  · exact .refl p s

theorem signBurstEnd_pointOnly : PointOnly p s (signBurstEnd p s) := by
  unfold signBurstEnd
  split
  · split
    · exact .ite _ (.endBurst hp ..)
    · exact .refl p s
  · exact .refl p s

theorem signPulse_pointOnly : PointOnly p s (signPulse p s) := by
  have pulsed (t : State) (ht : PointOnly p s t) : PointOnly p s (match t.field.monitor p with
      | .sign n => { t with field := t.field.setMonitor p (.sign (n.pulse s.now)) }
      | _ => t) := by
    split
    · exact ht.trans (.setMonitor hp t _)
    · exact ht
  unfold signPulse
  split
  · refine pulsed _ ?_
    split
    · exact .ite _ (.endBurst hp ..)
    · exact .refl p s
  · exact .refl p s

theorem noHeartbeat_pointOnly : PointOnly p s (noHeartbeat p s) := by
  unfold noHeartbeat
  split
  · split
    · exact .ite _ (.monitorEvent hp ..)
    · exact .refl p s
  · exact .refl p s

theorem supplyContactChange_pointOnly (closed : Bool) : PointOnly p s (supplyContactChange p closed s) := by
  unfold supplyContactChange
  split
  · split
    · exact .refl p s
    · exact .setMonitor hp ..
  · exact .refl p s

theorem supplyLossConfirm_pointOnly : PointOnly p s (supplyLossConfirm p s) := by
  unfold supplyLossConfirm
  split
  · exact .ite _ (.monitorEvent hp ..)
  · exact .refl p s

theorem supplyRestoreConfirm_pointOnly : PointOnly p s (supplyRestoreConfirm p s) := by
  unfold supplyRestoreConfirm
  split
  · exact .ite _ (.monitorEvent hp ..)
  · exact .refl p s

end Frame

/-- Settles O15: the frame command by command, the order of the reports by that of the two sets. -/
theorem fieldCommandsReportAndKeepEverythingElse : Obligations.FieldCommandsReportAndKeepEverythingElse := by
  refine ⟨?frame, ?order, ?sets, ?monitors⟩
  case frame =>
    intro p edges level i s t hi h
    obtain ⟨ok, rfl⟩ := exec_next h
    have only : PointOnly p s (effect i s) := by
      simp only [List.mem_cons, List.not_mem_nil, or_false] at hi
      obtain rfl | rfl | rfl | rfl | rfl | rfl | rfl | rfl | rfl | rfl | rfl | rfl | rfl | rfl | rfl := hi
      · exact lampCurrentChange_pointOnly ok s level
      · exact outConfirm_pointOnly ok s
      · exact outClear_pointOnly ok s
      · exact dayburnConfirm_pointOnly ok s
      · exact dayburnClear_pointOnly ok s
      · exact cyclingWindowExpiry_pointOnly ok s
      · exact loopGateEnd_pointOnly ok s edges
      · exact loopBaselinePeriodEnd_pointOnly ok s
      · exact chatterWindowExpiry_pointOnly ok s
      · exact signPulse_pointOnly ok s
      · exact signBurstEnd_pointOnly ok s
      · exact noHeartbeat_pointOnly ok s
      · exact supplyContactChange_pointOnly ok s level
      · exact supplyLossConfirm_pointOnly ok s
      · exact supplyRestoreConfirm_pointOnly ok s
    exact ⟨only.frame, only.others, only.reports⟩
  case order =>
    intro p before after hb ha
    exact ⟨_, _, rfl, ha.filter _, hb.filter _, by simp, by simp⟩
  case sets =>
    intro c l
    exact ⟨fun x => ⟨mem_condJoin c x l, mem_condLeave c x l⟩, fun h => ⟨Ascending.condJoin h c, Ascending.condLeave h c⟩⟩
  case monitors =>
    intro f p m hlen hp
    exact ⟨f.setMonitor_monitor_self hp hlen m, fun q hq hne => f.setMonitor_monitor_of_ne hp hq hne m⟩

end Sys2Proof.Machine

/-!
PROOFS. One step, one tick, and the state after RESET (R56, R193).
-/
namespace Sys2Proof.Machine

/-! ### Steps and ticks -/

/-- Settles O1: by the definition of a step on a queue with a front command. -/
theorem stepRunsTheFrontCommand : Obligations.StepRunsTheFrontCommand :=
  fun c rest s => step_of_waiting (s := { s with pending := c :: rest }) rfl

/-- The tick count stays below 100 (R56). -/
theorem Timebase.advance_tick_lt (t : Timebase) : t.advance.tick < 100 := by
  unfold Timebase.advance
  split
  · assumption
  · exact Nat.zero_lt_succ 99

/-- One tick is one tick, across the end of a second and the wrap of the seconds (R56, log 5). -/
theorem Timebase.now_advance {t : Timebase} (h : t.tick < 100) : t.advance.now = t.now + 1 := by
  unfold Timebase.advance
  split
  · rfl
  next full =>
    have tick : t.tick = 99 := by simp only [Config.ticksPerSecond] at full; omega
    have next : (t.seconds + 1).toNat = (t.seconds.toNat + 1) % 2 ^ 32 := BitVec.toNat_add ..
    have bound := t.seconds.isLt
    by_cases wraps : t.seconds + 1 = 0
    · have zero : (t.seconds + 1).toNat = 0 := by rw [wraps]; rfl
      simp only [Timebase.now, Timebase.nowSec, if_pos wraps, Config.ticksPerSecond, tick, zero]
      omega
    · have room : (t.seconds + 1).toNat ≠ 0 := fun e => wraps (BitVec.eq_of_toNat_eq e)
      simp only [Timebase.now, Timebase.nowSec, if_neg wraps, Config.ticksPerSecond, tick]
      omega

/-- Settles O2: the tick, by whether a second ends and whether the seconds wrap. -/
theorem idleStepPassesOneTick : Obligations.IdleStepPassesOneTick := by
  intro s idle inRange
  exact ⟨s.passTick, step_of_idle idle, rfl, Timebase.now_advance inRange, s.time.advance_tick_lt⟩

/-! ### The state after RESET (R193) -/

theorem reset_eq (s : State) : reset s = { State.reset with pending := s.pending, freeIx := s.freeIx } := rfl

theorem getD_replicate_self {α : Type} (n k : Nat) (a : α) : (List.replicate n a).getD k a = a := by
  by_cases h : k < n <;> simp [List.getD_eq_getElem?_getD, h]

/-- The monitors wait for their configuration (R81). -/
theorem Field.monitor_start (p : Nat) : Field.start.monitor p = .off := by
  unfold Field.monitor
  split
  · rfl
  · exact getD_replicate_self ..

/-- Every slot is empty (R103). -/
theorem OriginUnit.slot_start (k : Nat) : OriginUnit.start.slot k = OwnSlot.start := getD_replicate_self ..

/-- Settles O5: RESET leaves every block at its start. -/
theorem resetGivesStartValues : Obligations.ResetGivesStartValues := by
  intro s
  refine ⟨reset s, exec_reset s, rfl, rfl, rfl, rfl, rfl, rfl, rfl, rfl, rfl, rfl, rfl, Field.monitor_start, rfl,
    OriginUnit.slot_start, ?_⟩
  rw [reset_eq]
  simp [State.reset, OriginUnit.start, TableEngine.start, RosterUnit.start, LineReceiver.start, LineTransmitter.start]

theorem OwnSlot.start_sound : OwnSlot.start.sound := by
  simp [OwnSlot.sound, OwnSlot.start]

theorem originSafe_reset : OriginSafe State.reset := by
  refine ⟨rfl, fun sl h => ?_, by simp [State.queueOrdered, State.reset, OriginUnit.start], List.nodup_nil,
    by simp [State.reset, OriginUnit.start], Nat.zero_le 64⟩
  rw [List.eq_of_mem_replicate h]
  exact OwnSlot.start_sound

theorem tableSafe_reset : TableSafe State.reset := by
  simp [TableSafe, State.reset, TableEngine.start, peerCount]

theorem groupsMatch_reset : GroupsMatch State.reset := by
  simp [GroupsMatch, State.reset, TableEngine.start, lackingGroups, supervisedGroups, mergeNat]

theorem portSafe_reset : PortSafe State.reset := by decide

theorem rosterSafe_reset : RosterSafe State.reset := by
  simp [RosterSafe, State.reset, RosterUnit.start]

theorem lineSafe_reset : LineSafe State.reset := by
  simp [LineSafe, State.reset, LineReceiver.start, LineTransmitter.start]

theorem quietSafe_reset : QuietSafe State.reset := by
  simp [QuietSafe, State.reset, LineTransmitter.start, Loader.start]

theorem loaderSafe_reset : LoaderSafe State.reset := by
  simp [LoaderSafe, State.reset, Loader.start, TableEngine.start, OriginUnit.start, RosterUnit.start]

theorem timeSafe_reset : TimeSafe State.reset := Nat.zero_lt_succ 99

/-- Settles O51: property by property, each of a start value. -/
theorem resetIsSafe : Obligations.ResetIsSafe :=
  ⟨loaderSafe_reset, portSafe_reset, originSafe_reset, tableSafe_reset, groupsMatch_reset, rosterSafe_reset,
    lineSafe_reset, quietSafe_reset, timeSafe_reset⟩

end Sys2Proof.Machine

/-!
PROOFS. The Origin Unit (chapter 4): a change of an own record, point reports and station-condition reports.
-/
namespace Sys2Proof.Machine

/-! ### The tests of a change entry (R94 to R96) -/

theorem State.urgent_iff (s : State) (k : Nat) :
    s.urgent k = true ↔ k = 0 ∨ (s.pointConfig k).kind = some .supply := by
  simp [State.urgent]

theorem State.queues_iff (s : State) :
    s.queues = true ↔ (s.loader.state = .inStep ∨ s.loader.state = .mute) ∧ s.loader.rejoin = none := by
  simp [State.queues, State.rejoining]

theorem OriginUnit.deferred_iff (o : OriginUnit) (r : Record) : o.deferred r = true ↔
    (r.kind = .lamp ∨ r.kind = .loop ∨ r.kind = .sign) ∧ r.group ≠ 0 ∧ r.group ∈ o.held := by
  simp [OriginUnit.deferred, and_assoc, or_assoc]

/-- A slot that is not there is an empty one. -/
theorem OriginUnit.slot_of_le {o : OriginUnit} {k : Nat} (h : o.slots.length ≤ k) : o.slot k = .start := by
  simp [OriginUnit.slot, List.getD_eq_getElem?_getD, List.getElem?_eq_none h]

/-- Only a slot that is there holds a record. -/
theorem OriginUnit.lt_of_record {o : OriginUnit} {k : Nat} {r : Record} (h : (o.slot k).record = some r) :
    k < o.slots.length := by
  by_contra hk
  rw [OriginUnit.slot_of_le (Nat.not_lt.1 hk)] at h
  exact absurd h (by simp [OwnSlot.start])

/-! ### A change of an own record (R83, R92, R93, R96) -/

section Commit
variable (s : State) (k : Nat) (sl : OwnSlot) (r : Record)

theorem State.commit_slots : (s.commit k sl r).origin.slots = s.origin.slots.set k
    { sl with record := some { r with version := sl.version + 1 }, version := sl.version + 1, announced := false } := by
  rw [State.commit_eq, State.wake_origin]

theorem State.commit_ownUpdates : (s.commit k sl r).origin.ownUpdates =
    if k ∈ s.origin.ownUpdates then s.origin.ownUpdates else s.origin.ownUpdates ++ [k] := by
  rw [State.commit_eq, State.wake_origin]

theorem State.commit_changeQueue : (s.commit k sl r).origin.changeQueue =
    if (s.loader.state = .inStep ∨ s.loader.state = .mute) ∧ s.loader.rejoin = none ∧ k ∉ s.origin.changeQueue ∧
        ¬((r.kind = .lamp ∨ r.kind = .loop ∨ r.kind = .sign) ∧ r.group ≠ 0 ∧ r.group ∈ s.origin.held)
      then s.enqueue k s.origin.changeQueue else s.origin.changeQueue := by
  rw [State.commit_eq, State.wake_origin]
  refine if_congr ?_ rfl rfl
  rw [Bool.and_eq_true, Bool.and_eq_true, State.queues_iff, Bool.not_eq_true', Bool.not_eq_true', ← Bool.not_eq_true,
    ← Bool.not_eq_true, OriginUnit.deferred_iff, List.contains_iff_mem, and_assoc, and_assoc]

/-- A change is a matter of the Origin Unit's slots, queue and own updates, and of the waking of the transmitter. -/
theorem State.commit_frame : s.commit k sl r = { s with
    origin := { s.origin with
      slots := (s.commit k sl r).origin.slots, changeQueue := (s.commit k sl r).origin.changeQueue
      ownUpdates := (s.commit k sl r).origin.ownUpdates }
    tx := { s.tx with state := (s.commit k sl r).tx.state } } := by
  rw [State.commit_eq, State.wake_eq]

theorem State.commit_txState : (s.commit k sl r).tx.state =
    if s.loader.state = .inStep ∧ s.tx.state = .idle ∧
        ((s.commit k sl r).origin.changeQueue ≠ [] ∨ s.origin.ackSlot ≠ none ∨ s.origin.refreshDue ≠ none)
      then .waiting else s.tx.state := by
  rw [State.commit_eq, State.wake_eq]

end Commit

/-! ### The place of a change entry (R95) -/

/-- In a queue with the urgent entries ahead, an urgent entry joins behind the last of them, an ordinary one at the tail. -/
theorem State.enqueue_append {s : State} {urgents ordinaries : List Nat} (hu : ∀ j ∈ urgents, s.urgent j = true)
    (ho : ∀ j ∈ ordinaries, s.urgent j = false) (k : Nat) : s.enqueue k (urgents ++ ordinaries) =
      if s.urgent k then urgents ++ [k] ++ ordinaries else urgents ++ ordinaries ++ [k] := by
  have front : (urgents ++ ordinaries).filter s.urgent = urgents := by
    rw [List.filter_append, List.filter_eq_self.2 hu, List.filter_eq_nil_iff.2 (by simpa using ho), List.append_nil]
  have back : (urgents ++ ordinaries).filter (fun j => !s.urgent j) = ordinaries := by
    rw [List.filter_append, List.filter_eq_nil_iff.2 (by simpa using hu), List.filter_eq_self.2 (by simpa using ho),
      List.nil_append]
  rw [State.enqueue, front, back]

/-- Settles O16: the change field by field, the entry's place by its class. -/
theorem changeOfAnOwnRecordIsOneEvent : Obligations.ChangeOfAnOwnRecordIsOneEvent := by
  refine ⟨?change, fun k urgents ordinaries s => ⟨s.urgent_iff k, fun hu ho => State.enqueue_append hu ho k⟩⟩
  rintro k sl r new s t hk hlen rfl rfl
  have slot (j : Nat) : (s.commit k sl r).origin.slot j = if j = k
      then { sl with record := some { r with version := sl.version + 1 }, version := sl.version + 1, announced := false }
      else s.origin.slot j := by
    rw [← OriginUnit.slot_setSlot s.origin k j _ (by omega), OriginUnit.slot, State.commit_slots]
    rfl
  exact ⟨s.commit_frame k sl r, (slot k).trans (if_pos rfl), fun j hj => (slot j).trans (if_neg hj),
    s.commit_ownUpdates k sl r, s.commit_changeQueue k sl r, s.commit_txState k sl r⟩

/-! ### The wanted condition and severities (R5, R84) -/

theorem wanted_eq_none {l : List Condition} : wanted l = none ↔ l = [] := by
  cases l with
  | nil => simp [wanted]
  | cons c l =>
    unfold wanted
    split
    · simp
    · split <;> simp

/-- No condition of the picture is preferred to the wanted one: it is the most severe, of the lowest code between equals. -/
def Condition.prevails (c d : Condition) : Prop :=
  d.severity < c.severity ∨ (d.severity = c.severity ∧ c.code ≤ d.code)

theorem wanted_prevails {l : List Condition} (h : Ascending l) {c : Condition} (hc : wanted l = some c) :
    c ∈ l ∧ ∀ d ∈ l, c.prevails d := by
  induction l generalizing c with
  | nil => simp [wanted] at hc
  | cons x l ih =>
    obtain ⟨hx, hl⟩ := List.pairwise_cons.1 h
    unfold wanted at hc
    cases hw : wanted l with
    | none =>
      obtain rfl := wanted_eq_none.1 hw
      simp only [wanted, Option.some.injEq] at hc
      simp [Condition.prevails, hc]
    | some y =>
      obtain ⟨hy, best⟩ := ih hl hw
      simp only [hw] at hc
      split at hc
      next more =>
        obtain rfl : y = c := by simpa using hc
        refine ⟨List.mem_cons_of_mem _ hy, fun d hd => ?_⟩
        rcases List.mem_cons.1 hd with rfl | hd
        · exact .inl more
        · exact best d hd
      next less =>
        obtain rfl : x = c := by simpa using hc
        refine ⟨List.mem_cons_self .., fun d hd => ?_⟩
        rcases List.mem_cons.1 hd with rfl | hd
        · exact .inr ⟨rfl, le_rfl⟩
        · have := hx d hd
          obtain lt | ⟨eq, -⟩ := best d hd
          · exact .inl (by omega)
          · rcases Nat.lt_or_ge d.severity x.severity with lt | ge
            · exact .inl lt
            · exact .inr ⟨by omega, by omega⟩

/-- The wanted condition is the one that prevails over all. -/
theorem wanted_iff {l : List Condition} (h : Ascending l) (c : Condition) :
    wanted l = some c ↔ c ∈ l ∧ ∀ d ∈ l, c.prevails d := by
  refine ⟨wanted_prevails h, fun ⟨hc, best⟩ => ?_⟩
  cases hw : wanted l with
  | none =>
    rw [wanted_eq_none.1 hw] at hc
    exact absurd hc (by simp)
  | some d =>
    obtain ⟨hd, best'⟩ := wanted_prevails h hw
    have := best d hd
    have := best' c hc
    unfold Condition.prevails at *
    rw [Condition.code_injective (a₁ := d) (a₂ := c) (by omega)]

theorem severityOf_cons (c : Condition) (l : List Condition) :
    severityOf (c :: l) = max c.severity (severityOf l) := rfl

theorem severity_le_severityOf {c : Condition} {l : List Condition} (h : c ∈ l) : c.severity ≤ severityOf l := by
  induction l with
  | nil => simp at h
  | cons x l ih =>
    rw [severityOf_cons]
    rcases List.mem_cons.1 h with rfl | h
    · exact le_max_left ..
    · exact (ih h).trans (le_max_right ..)

theorem exists_severityOf {l : List Condition} (h : l ≠ []) : ∃ c ∈ l, c.severity = severityOf l := by
  induction l with
  | nil => exact absurd rfl h
  | cons x l ih =>
    rw [severityOf_cons]
    by_cases hl : l = []
    · exact ⟨x, by simp [hl, severityOf]⟩
    · obtain ⟨c, hc, hs⟩ := ih hl
      rcases le_total (severityOf l) x.severity with hx | hx
      · exact ⟨x, by simp, (max_eq_left hx).symm⟩
      · exact ⟨c, by simp [hc], hs.trans (max_eq_right hx).symm⟩

/-! ### Point reports (R84 to R87, R89, R90) -/

theorem crowded_eq {l : List Nat} (hl : l ≠ []) (cap window now : Nat) :
    crowded cap window now l = decide (l.length = cap ∧ now - l.headD 0 < window) := by
  rw [← Bool.coe_iff_coe, crowded_iff hl, decide_eq_true_iff]

/-- A raise enters the history and may latch, and the change is committed. -/
theorem State.raisePoint_eq (s : State) (p : Nat) (sl : OwnSlot) (make : Bool → Record) :
    s.raisePoint p sl make = s.commit p { sl with history := pushTime 4 s.now sl.history, quietEnd := none }
      (make (decide ((pushTime 4 s.now sl.history).length = 4 ∧
        s.now - (pushTime 4 s.now sl.history).headD 0 < 90000))) := by
  simp only [State.raisePoint, raiseHistory, crowded_eq (pushTime_ne_nil 4 s.now sl.history)]
  rfl

theorem conditionReport_of_find {s : State} {p : Nat} {rep : ConditionReport}
    (h : s.origin.reportsIn.find? (fun r => decide (r.point = p)) = some rep) : conditionReport p s =
      State.takeReport
        { s with origin := { s.origin with reportsIn := s.origin.reportsIn.eraseP (fun r => decide (r.point = p)) } }
        p rep := by
  simp only [conditionReport, h]

theorem conditionReport_of_none {s : State} {p : Nat} (h : ∀ r ∈ s.origin.reportsIn, r.point ≠ p) :
    conditionReport p s = s := by
  have none : s.origin.reportsIn.find? (fun r => decide (r.point = p)) = none := by
    simpa [List.find?_eq_none] using h
  simp only [conditionReport, none]

section TakeReport
variable {s : State} {p : Nat} {rep : ConditionReport} {old sl : OwnSlot} {picture : List Condition}
  (hold : old = s.origin.slot p)
  (hpic : picture = if rep.raise then condJoin rep.condition old.picture else condLeave rep.condition old.picture)
  (hsl : sl = { old with picture := picture })
include hold hpic hsl

theorem State.takeReport_empty (h : old.record = none) (hw : wanted picture = none) :
    s.takeReport p rep = s.putSlot p sl := by
  subst hsl hpic hold
  simp only [State.takeReport, h, hw]

/-- A raise of an empty slot makes a record (R84). -/
theorem State.takeReport_new {c : Condition} {k : Kind} (h : old.record = none) (hw : wanted picture = some c)
    (hk : (s.pointConfig p).kind = some k) : s.takeReport p rep =
      s.raisePoint p sl (newOwnRecord s p k [c] (s.pointConfig p).group (s.pointConfig p).parent) := by
  subst hsl hpic hold
  cases hcfg : s.pointConfig p with
  | mk kind group parent set settings =>
    rw [hcfg] at hk
    obtain rfl : kind = some k := hk
    simp only [State.takeReport, h, hw, hcfg]

theorem State.takeReport_same {r : Record} {c : Condition} (h : old.record = some r) (ho : r.state = .opened)
    (hw : wanted picture = some c) (hc : r.conds = [c]) :
    s.takeReport p rep = s.putSlot p { sl with quietEnd := none } := by
  subst hsl hpic hold
  simp only [State.takeReport, h, hw, ho, hc, if_true]

theorem State.takeReport_other {r : Record} {c : Condition} (h : old.record = some r) (ho : r.state = .opened)
    (hw : wanted picture = some c) (hc : r.conds ≠ [c]) :
    s.takeReport p rep = s.commit p { sl with quietEnd := none } (r.recondition [c]) := by
  subst hsl hpic hold
  simp only [State.takeReport, h, hw, ho, hc, if_false]

theorem State.takeReport_clears {r : Record} (h : old.record = some r) (ho : r.state = .opened)
    (hw : wanted picture = none) (hf : r.flapping = false) :
    s.takeReport p rep = s.commit p sl (r.clearedNow s.nowSec) := by
  subst hsl hpic hold
  simp [State.takeReport, h, hw, ho, hf]

/-- The picture of a flapping record empties: the quiet interval starts where it had not been empty (R90). -/
theorem State.takeReport_quiets {r : Record} (h : old.record = some r) (ho : r.state = .opened)
    (hw : wanted picture = none) (hf : r.flapping = true) :
    s.takeReport p rep = s.putSlot p
      (if old.picture = [] then sl else { sl with quietEnd := some (s.now + Config.quietTicks) }) := by
  subst hsl hpic hold
  simp only [State.takeReport, h, hw, ho, hf, if_true]

theorem State.takeReport_reraises {r : Record} {c : Condition} (h : old.record = some r) (ho : r.state = .cleared)
    (hw : wanted picture = some c) : s.takeReport p rep = s.raisePoint p sl (r.reraised s.nowSec [c]) := by
  subst hsl hpic hold
  simp only [State.takeReport, h, hw, ho]

theorem State.takeReport_stays {r : Record} (h : old.record = some r) (ho : r.state = .cleared)
    (hw : wanted picture = none) : s.takeReport p rep = s.putSlot p sl := by
  subst hsl hpic hold
  simp only [State.takeReport, h, hw, ho]

end TakeReport

/-- Settles O17: the report by the slot's record, its state and the condition wanted. -/
theorem pointReportsMoveTheRecord : Obligations.PointReportsMoveTheRecord := by
  refine ⟨?reports, ?none, ?put, by decide, fun r l => ⟨rfl, fun c hc => severity_le_severityOf hc, exists_severityOf⟩⟩
  case reports =>
    intro p rep s u old sl raised picture history latch hp hfind hu hold hpic hsl hhist hlatch hraised
    have takes {t : State} (h : u.takeReport p rep = t) : exec (.conditionReport p) s = .next t := by
      refine exec_yields hp ((conditionReport_of_find hfind).trans ?_)
      rw [← hu, h]
    have hold' : old = u.origin.slot p := by rw [hold, hu]; rfl
    have now : u.now = s.now := by rw [hu]; rfl
    have nowSec : u.nowSec = s.nowSec := by rw [hu]; rfl
    have raises (make : Bool → Record) : u.raisePoint p sl make = u.commit p raised (make latch) := by
      have entered : pushTime 4 u.now sl.history = history := by rw [hhist, hsl, now]; rfl
      rw [State.raisePoint_eq, entered, hraised, hlatch, now]
    refine ⟨fun c asc => wanted_iff asc c, fun h => ⟨fun hw => ?_, fun c k hw hk => ?_⟩,
      fun r h ho => ⟨fun c hw hc => ?_, fun c hw hc => ?_, fun hw hf => ?_, fun hw hf hne => ?_, fun hw hf he => ?_⟩,
      fun r h ho => ⟨fun c hw => ?_, fun hw => ?_⟩⟩
    · exact takes (State.takeReport_empty hold' hpic hsl h hw)
    · have hk' : (u.pointConfig p).kind = some k := by rw [hu]; exact hk
      refine takes ((State.takeReport_new hold' hpic hsl h hw hk').trans ((raises _).trans ?_))
      rw [hu]
      rfl
    · exact takes (State.takeReport_same hold' hpic hsl h ho hw hc)
    · exact takes (State.takeReport_other hold' hpic hsl h ho hw hc)
    · refine takes ((State.takeReport_clears hold' hpic hsl h ho hw hf).trans ?_)
      rw [nowSec, Record.clearedNow, hf]
    · refine takes ((State.takeReport_quiets hold' hpic hsl h ho hw hf).trans ?_)
      rw [if_neg hne, now]
      rfl
    · refine takes ((State.takeReport_quiets hold' hpic hsl h ho hw hf).trans ?_)
      rw [if_pos he]
    · refine takes ((State.takeReport_reraises hold' hpic hsl h ho hw).trans ((raises _).trans ?_))
      rw [nowSec]
      rfl
    · exact takes (State.takeReport_stays hold' hpic hsl h ho hw)
  case none =>
    intro p s hp h
    exact exec_yields hp (conditionReport_of_none h)
  case put =>
    rintro k sl s t hk hlen rfl
    have slot (j : Nat) := OriginUnit.slot_setSlot s.origin k j sl (by omega)
    exact ⟨rfl, (slot k).trans (if_pos rfl), fun j hj => (slot j).trans (if_neg hj)⟩

/-! ### Station-condition reports (R91) -/

theorem stationConditionReport_of_find {s : State} {src : ReportSource} {rep : StationReport}
    (h : s.origin.stationIn.find? (fun r => decide (r.source = src)) = some rep) : stationConditionReport src s =
      State.takeStationReport
        { s with origin := { s.origin with stationIn := s.origin.stationIn.eraseP (fun r => decide (r.source = src)) } }
        rep := by
  simp only [stationConditionReport, h]

theorem stationConditionReport_of_none {s : State} {src : ReportSource}
    (h : ∀ r ∈ s.origin.stationIn, r.source ≠ src) : stationConditionReport src s = s := by
  have none : s.origin.stationIn.find? (fun r => decide (r.source = src)) = none := by
    simpa [List.find?_eq_none] using h
  simp only [stationConditionReport, none]

section TakeStationReport
variable {s : State} {rep : StationReport} {old sl : OwnSlot} {list : List Condition} (hold : old = s.origin.slot 0)
  (hlist : list = if rep.raise then condJoin rep.condition old.picture else condLeave rep.condition old.picture)
  (hsl : sl = { old with picture := list })

include hold in
theorem State.takeStationReport_idle (h : rep.raise = true ↔ rep.condition ∈ old.picture) :
    s.takeStationReport rep = s := by
  have same : rep.raise = old.picture.contains rep.condition := by
    rw [← Bool.coe_iff_coe, List.contains_iff_mem]
    exact h
  subst hold
  simp only [State.takeStationReport, if_pos same]

variable (moves : ¬(rep.raise = true ↔ rep.condition ∈ old.picture))
include moves in
theorem station_moves : ¬rep.raise = old.picture.contains rep.condition := fun same =>
  moves (by rw [same, List.contains_iff_mem])

include hold hlist hsl moves

theorem State.takeStationReport_new (h : old.record = none) (hl : list ≠ []) : s.takeStationReport rep =
    s.commit 0 sl (newOwnRecord s 0 .station list 0 0 false) := by
  have moves := station_moves moves
  cases list with
  | nil => exact absurd rfl hl
  | cons c cs =>
    subst hsl hold
    simp only [State.takeStationReport, if_neg moves, ← hlist, h]

theorem State.takeStationReport_changes {r : Record} (h : old.record = some r) (ho : r.state = .opened)
    (hl : list ≠ []) : s.takeStationReport rep = s.commit 0 sl (r.recondition list) := by
  have moves := station_moves moves
  cases list with
  | nil => exact absurd rfl hl
  | cons c cs =>
    subst hsl hold
    simp only [State.takeStationReport, if_neg moves, ← hlist, h, ho]

theorem State.takeStationReport_clears {r : Record} (h : old.record = some r) (ho : r.state = .opened)
    (hl : list = []) : s.takeStationReport rep = s.commit 0 sl (r.clearedNow s.nowSec) := by
  have moves := station_moves moves
  subst hl hsl hold
  simp only [State.takeStationReport, if_neg moves, ← hlist, h, ho]

theorem State.takeStationReport_reraises {r : Record} (h : old.record = some r) (ho : r.state = .cleared)
    (hl : list ≠ []) : s.takeStationReport rep = s.commit 0 sl (r.reraised s.nowSec list false) := by
  have moves := station_moves moves
  cases list with
  | nil => exact absurd rfl hl
  | cons c cs =>
    subst hsl hold
    simp only [State.takeStationReport, if_neg moves, ← hlist, h, ho]

end TakeStationReport

/-- Settles O18: the report by whether it moves the list, the record's state and the list left. -/
theorem stationReportsMoveTheStationRecord : Obligations.StationReportsMoveTheStationRecord := by
  refine ⟨?reports, fun src s h => exec_yields rfl (stationConditionReport_of_none h)⟩
  intro src rep s u old sl list hfind hu hold hlist hsl
  have takes {t : State} (h : u.takeStationReport rep = t) : exec (.stationConditionReport src) s = .next t := by
    refine exec_yields rfl ((stationConditionReport_of_find hfind).trans ?_)
    rw [← hu, h]
  have hold' : old = u.origin.slot 0 := by rw [hold, hu]; rfl
  have nowSec : u.nowSec = s.nowSec := by rw [hu]; rfl
  refine ⟨fun idle => takes (State.takeStationReport_idle hold' idle), fun moves => ⟨fun h hl => takes ?_,
    fun r h ho => ⟨fun hl => takes ?_, fun hl => takes ?_⟩, fun r h ho hl => takes ?_⟩⟩
  · rw [State.takeStationReport_new hold' hlist hsl moves h hl, hu]
    rfl
  · exact State.takeStationReport_changes hold' hlist hsl moves h ho hl
  · rw [State.takeStationReport_clears hold' hlist hsl moves h ho hl, nowSec]
    rfl
  · rw [State.takeStationReport_reraises hold' hlist hsl moves h ho hl, nowSec]
    rfl

end Sys2Proof.Machine

/-!
PROOFS. The Origin Unit (chapters 4 and 7), continued: the latch's release, the linger's end, hold signals, the two
acknowledgements at the origin, and the walk.
-/
namespace Sys2Proof.Machine

/-! ### The latch's release and the linger's end (R88, R90, R139) -/

theorem due_iff (t : Option Nat) (now : Nat) : due t now = true ↔ ∃ e, t = some e ∧ e ≤ now := by
  cases t <;> simp [due]

section FlapRelease
variable {s : State} {k : Nat}

theorem flapRelease_of_due {r : Record} (h : (s.origin.slot k).record = some r) (hf : r.flapping = true)
    (ho : r.state = .opened) (hp : (s.origin.slot k).picture = []) (hq : due (s.origin.slot k).quietEnd s.now = true) :
    flapRelease k s =
      s.commit k { s.origin.slot k with history := [], quietEnd := none } (r.clearedNow s.nowSec) := by
  simp [flapRelease, h, hf, ho, hp, hq]

theorem flapRelease_of_not
    (h : ¬∃ r, (s.origin.slot k).record = some r ∧ r.flapping = true ∧ r.state = .opened ∧
      (s.origin.slot k).picture = [] ∧ due (s.origin.slot k).quietEnd s.now = true) : flapRelease k s = s := by
  cases hr : (s.origin.slot k).record with
  | none => simp only [flapRelease, hr]
  | some r =>
    have test : ¬(r.flapping && r.state = .opened && (s.origin.slot k).picture = [] &&
        due (s.origin.slot k).quietEnd s.now) = true := fun ht => h ⟨r, hr, by simpa [and_assoc] using ht⟩
    simp only [flapRelease, hr, if_neg test]

end FlapRelease

theorem State.lingerOver_iff (s : State) (k : Nat) : s.lingerOver k = true ↔
    ∃ r at', (s.origin.slot k).record = some r ∧ r.state = .cleared ∧ r.clearedAt = some at' ∧
      at' + s.window ≤ s.nowSec := by
  unfold State.lingerOver
  split
  next h => simp [h]
  next h =>
    simp only [Bool.false_eq_true, false_iff]
    rintro ⟨⟨key, kind, conds, state, flapping, group, parent, version, raisedAt, occurrences, ackMark, lastHeard,
      freshness, clearedAt⟩, at', hr, rfl, rfl, -⟩
    exact h _ _ _ _ _ _ _ _ _ _ _ _ _ hr

/-- The slot that a record has left (R88). -/
def OwnSlot.emptied (sl : OwnSlot) : OwnSlot := { sl with record := none, announced := false, picture := [] }

/-- The Origin Unit once a slot's record has lingered (R88). -/
def OriginUnit.lingered (o : OriginUnit) (k : Nat) : OriginUnit :=
  { o with
    slots := o.slots.set k (o.slot k).emptied
    ownUpdates := if k ∈ o.ownUpdates then o.ownUpdates else o.ownUpdates ++ [k]
    changeQueue := if k = 0 then o.changeQueue else o.changeQueue.filter (fun j => decide (j ≠ k))
    refreshDue := if o.refreshDue = some k then none else o.refreshDue }

theorem ownLingerEnd_of_over {s : State} {k : Nat} (h : s.lingerOver k = true) :
    ownLingerEnd k s = State.dropLingered { s with origin := s.origin.lingered k } k := by
  simp only [ownLingerEnd, if_pos h, OriginUnit.offer_eq]
  rfl

theorem ownLingerEnd_of_not {s : State} {k : Nat} (h : ¬s.lingerOver k = true) : ownLingerEnd k s = s := by
  simp only [ownLingerEnd, if_neg h]

/-- A send has lost its item at the linger end of a slot (R88, R139; log 19 of slot 0). -/
def SendItem.lingersWith (i : SendItem) (k : Nat) : Prop := i = .change k ∧ k ≠ 0 ∨ i = .refresh k

theorem State.dropLingered_of_lost {s : State} {k : Nat} {c : CurrentSend} (hs : s.tx.state.isSending = false)
    (hc : s.tx.current = some c) (h : c.item.lingersWith k) : s.dropLingered k = s.endSend := by
  unfold State.dropLingered
  unfold SendItem.lingersWith at h
  cases hx : s.tx.state with
  | sending a => simp [hx, TxState.isSending] at hs
  | idle => simp [hc, h]
  | waiting => simp [hc, h]

theorem State.dropLingered_of_kept {s : State} {k : Nat}
    (h : ∀ c, s.tx.state.isSending = false → s.tx.current = some c → ¬c.item.lingersWith k) : s.dropLingered k = s := by
  unfold State.dropLingered
  unfold SendItem.lingersWith at h
  cases hx : s.tx.state with
  | sending a => rfl
  | idle | waiting =>
    cases hc : s.tx.current with
    | none => rfl
    | some c => simpa using fun lost => absurd lost (h c (by rw [hx]; rfl) hc)

/-- What a send that loses its item leaves of the station. -/
theorem State.dropLingered_frame (s : State) (k : Nat) : s.dropLingered k = { s with
    tx := { s.tx with state := (s.dropLingered k).tx.state, current := (s.dropLingered k).tx.current } } := by
  by_cases h : ∃ c, s.tx.state.isSending = false ∧ s.tx.current = some c ∧ c.item.lingersWith k
  · obtain ⟨c, hs, hc, lost⟩ := h
    rw [State.dropLingered_of_lost hs hc lost, State.endSend_frame]
  · rw [State.dropLingered_of_kept fun c hs hc lost => h ⟨c, hs, hc, lost⟩]

@[simp] theorem State.dropLingered_origin (s : State) (k : Nat) : (s.dropLingered k).origin = s.origin := by
  rw [State.dropLingered_frame]

/-- Settles O19: the release by its tests, the linger's end by its frame and by the send it may end. -/
theorem latchReleaseAndLingerEndOwnRecords : Obligations.LatchReleaseAndLingerEndOwnRecords := by
  refine ⟨?release, ?linger, ?unreleased, ?unlingered⟩
  case release =>
    intro k e r s hk h hf ho hp hq time
    exact exec_yields hk (flapRelease_of_due h hf ho hp ((due_iff ..).2 ⟨e, hq, time⟩))
  case unreleased =>
    intro k s hk h
    refine exec_yields hk (flapRelease_of_not ?_)
    rintro ⟨r, hr, hf, ho, hp, hq⟩
    obtain ⟨e, he, time⟩ := (due_iff ..).1 hq
    exact absurd time (Nat.not_le.2 (h r e hr hf ho hp he))
  case unlingered =>
    intro k s hk h
    refine exec_yields hk (ownLingerEnd_of_not ?_)
    rw [State.lingerOver_iff]
    rintro ⟨r, at', hr, hc, ha, time⟩
    exact absurd time (Nat.not_le.2 (h r at' hr hc ha))
  case linger =>
    intro k at' r s hk hlen hr hc ha time
    have lingered : s.lingerOver k = true := (s.lingerOver_iff k).2 ⟨r, at', hr, hc, ha, time⟩
    have inside : k < s.origin.slots.length := by simp [slotOk] at hk; omega
    refine ⟨ownLingerEnd k s, exec_yields (i := .ownLingerEnd k) hk rfl, ?_⟩
    rw [ownLingerEnd_of_over lingered]
    generalize hu : ({ s with origin := s.origin.lingered k } : State) = u
    have origin : (u.dropLingered k).origin = s.origin.lingered k := by rw [State.dropLingered_origin, ← hu]
    have slot (j : Nat) : (u.dropLingered k).origin.slot j =
        if j = k then (s.origin.slot k).emptied else s.origin.slot j := by
      rw [origin, ← OriginUnit.slot_setSlot s.origin k j _ inside]
      rfl
    refine ⟨?frame, (slot k).trans (if_pos rfl), fun j hj => (slot j).trans (if_neg hj), by rw [origin]; rfl,
      fun h0 => by rw [origin]; exact if_pos h0, fun h0 => by rw [origin]; exact if_neg h0, by rw [origin]; rfl,
      fun cur hs hcur lost => ?lost, fun kept => ?kept⟩
    case frame =>
      refine (u.dropLingered_frame k).trans ?_
      rw [origin, ← hu]
      rfl
    case lost =>
      have hs' : u.tx.state.isSending = false := by rw [← hu]; exact hs
      have hcur' : u.tx.current = some cur := by rw [← hu]; exact hcur
      rw [origin, State.dropLingered_of_lost hs' hcur' lost, State.endSend_frame, State.endSend_state, ← hu]
      rfl
    case kept =>
      rw [State.dropLingered_of_kept, ← hu]
      rw [← hu]
      exact kept

/-! ### Hold signals (R94, R95, R136) -/

theorem OriginUnit.mem_released (o : OriginUnit) (g k : Nat) : k ∈ o.released g ↔
    pointOk k = true ∧ k ∉ o.changeQueue ∧ (o.slot k).announced = false ∧
      ∃ r, (o.slot k).record = some r ∧ (r.kind = .lamp ∨ r.kind = .loop ∨ r.kind = .sign) ∧ r.group = g := by
  unfold OriginUnit.released
  rw [List.mem_filter, mem_allPoints]
  refine and_congr_right fun _ => ?_
  cases h : (o.slot k).record with
  | none => simp
  | some r =>
    simp only [Bool.and_eq_true, Bool.or_eq_true, decide_eq_true_eq, Bool.not_eq_true', List.contains_eq_mem,
      decide_eq_false_iff_not, Option.some.injEq, exists_eq_left']
    tauto

theorem allPoints_ascending : allPoints.Pairwise (· < ·) := by
  unfold allPoints
  rw [List.pairwise_map]
  exact List.pairwise_lt_range.imp fun h => Nat.add_lt_add_right h 1

/-- The Origin Unit once a hold has ended (R94). -/
def State.holdEnded (s : State) (g : Nat) (rest : List HoldSignal) : OriginUnit :=
  { s.origin with
    holdIn := rest, held := s.origin.held.filter (fun h => decide (h ≠ g))
    changeQueue := (if s.queues then s.origin.released g else []).foldl (fun q k => s.enqueue k q) s.origin.changeQueue }

theorem holdEndedSignal_of_head {s : State} {g : Nat} {rest : List HoldSignal} (h : s.origin.holdIn = .ended g :: rest) :
    holdEndedSignal s = State.wake { s with origin := s.holdEnded g rest } := by
  simp only [holdEndedSignal, h, State.holdEnded]
  by_cases hq : s.queues = true
  · simp only [hq, if_true]
    rfl
  · simp [hq]

theorem holdEndedSignal_of_not {s : State} (h : ∀ g rest, s.origin.holdIn ≠ .ended g :: rest) :
    holdEndedSignal s = s := by
  unfold holdEndedSignal
  split
  next hs => exact absurd hs (h _ _)
  next => rfl

theorem holdBegunSignal_of_head {s : State} {g : Nat} {rest : List HoldSignal} (h : s.origin.holdIn = .begun g :: rest) :
    holdBegunSignal s =
      { s with origin := { s.origin with holdIn := rest, held := insertNat g s.origin.held } } := by
  simp only [holdBegunSignal, h]

theorem holdBegunSignal_of_not {s : State} (h : ∀ g rest, s.origin.holdIn ≠ .begun g :: rest) :
    holdBegunSignal s = s := by
  unfold holdBegunSignal
  split
  next hs => exact absurd hs (h _ _)
  next => rfl

/-- Ordinary entries join at the tail, in their order (R95). -/
theorem State.enqueueAll_ordinary {s : State} {l : List Nat} (h : ∀ k ∈ l, s.urgent k = false) (q : List Nat) :
    l.foldl (fun q k => s.enqueue k q) q = q ++ l := by
  induction l generalizing q with
  | nil => simp
  | cons k l ih =>
    have tail : s.enqueue k q = q ++ [k] := by simp [State.enqueue, h k (by simp)]
    rw [List.foldl_cons, tail, ih fun j hj => h j (by simp [hj]), List.append_assoc]
    rfl

/-- Settles O20: the begun signal by what it adds, the ended one by what it releases. -/
theorem holdSignalsMoveTheHeldSet : Obligations.HoldSignalsMoveTheHeldSet := by
  refine ⟨fun g rest s => ⟨fun h => ?begun, fun h => ?ended⟩,
    fun s => ⟨fun h => exec_yields rfl (holdBegunSignal_of_not h), fun h => exec_yields rfl (holdEndedSignal_of_not h)⟩⟩
  case begun =>
    refine ⟨_, exec_yields rfl (holdBegunSignal_of_head h), rfl, fun x => ?_⟩
    rw [mem_insertNat, or_comm]
  case ended =>
    have origin : (State.wake { s with origin := s.holdEnded g rest }).origin = s.holdEnded g rest :=
      State.wake_origin _
    refine ⟨_, exec_yields rfl (holdEndedSignal_of_head h), ?frame, fun x => ?held,
      if s.queues then s.origin.released g else [], ?ascending, fun k => ?mem, by rw [origin]; rfl, fun ordinary => ?tail⟩
    case frame =>
      rw [origin, State.wake_eq]
      rfl
    case held =>
      rw [origin]
      simp [State.holdEnded]
    case ascending =>
      split
      · exact allPoints_ascending.filter _
      · exact .nil
    case mem =>
      by_cases hq : s.queues = true
      · rw [if_pos hq, OriginUnit.mem_released]
        obtain ⟨inService, noRejoin⟩ := (s.queues_iff).1 hq
        exact ⟨fun h => ⟨inService, noRejoin, h⟩, fun ⟨_, _, h⟩ => h⟩
      · rw [if_neg hq]
        simp only [List.not_mem_nil, false_iff]
        rintro ⟨inService, noRejoin, -⟩
        exact hq ((s.queues_iff).2 ⟨inService, noRejoin⟩)
    case tail =>
      rw [origin]
      refine State.enqueueAll_ordinary (fun k hk => ?_) _
      have point : pointOk k = true := by
        split at hk
        · exact ((OriginUnit.mem_released ..).1 hk).1
        · simp at hk
      have nonzero : k ≠ 0 := by rintro rfl; simp [pointOk] at point
      rw [← Bool.not_eq_true, State.urgent_iff]
      exact not_or.2 ⟨nonzero, ordinary k hk⟩

/-! ### Acknowledgements at the origin (R154, R156, R161) -/

/-- The reply to an ACK in service, which leaves the service FREE. -/
def State.answerAck (s : State) (r : Report) : State := { s with port := { s.port.post r with service := .free } }

section OwnAck
variable {s : State} {o k : Nat} {seen : Version} (hs : s.port.service = .ownAck o k seen)
include hs

theorem ownAckDecision_refused {reason : RefusalReason} (h : s.ownAckCheck k seen = some reason) :
    ownAckDecision s = s.answerAck (.refused 6 reason o k) := by
  simp only [ownAckDecision, hs, h]
  rfl

theorem ownAckDecision_accepted {r : Record} (h : s.ownAckCheck k seen = none)
    (hr : (s.origin.slot k).record = some r) :
    ownAckDecision s = State.answerAck (s.setMark k (s.origin.slot k) r s.own) (.ackReply o k .accepted) := by
  simp only [ownAckDecision, hs, h, hr]
  rfl

end OwnAck

theorem ownAckDecision_of_not {s : State} (h : ∀ o k seen, s.port.service ≠ .ownAck o k seen) :
    ownAckDecision s = s := by
  cases hs : s.port.service with
  | ownAck o k seen => exact absurd hs (h o k seen)
  | _ => simp only [ownAckDecision, hs]

section OwnAckCheck
variable {s : State} {k : Nat} {seen : Version}

theorem State.ownAckCheck_notReady (h : s.loader.state ≠ .inStep) : s.ownAckCheck k seen = some .notReady := by
  simp [State.ownAckCheck, h]

theorem State.ownAckCheck_noRecord (h : s.loader.state = .inStep) (hr : (s.origin.slot k).record = none) :
    s.ownAckCheck k seen = some .noRecord := by
  simp [State.ownAckCheck, h, hr]

/-- The checks of a record there, in order (R156). -/
theorem State.ownAckCheck_record {r : Record} (h : s.loader.state = .inStep) (hr : (s.origin.slot k).record = some r) :
    s.ownAckCheck k seen =
      if r.state ≠ .opened then some .notOpen
      else if r.version ≠ seen then some .changed
      else if r.ackMark ≠ none then some .already
      else none := by
  simp only [State.ownAckCheck, h, hr, ne_eq, not_true_eq_false, if_false]

end OwnAckCheck

/-- An ACKNOWLEDGE is applied where the four conditions of R161 fit. -/
theorem State.ackApplies_iff (s : State) (a : AckFrame) (r : Record) : s.ackApplies a = some r ↔
    (s.origin.slot a.point).record = some r ∧ s.origin.runTag = some a.tag ∧ r.state = .opened ∧
      r.version = a.seen ∧ r.ackMark = none := by
  unfold State.ackApplies
  split
  next x hx =>
    split
    next fits =>
      simp only [Option.some.injEq, hx]
      exact ⟨fun e => e ▸ ⟨rfl, fits⟩, fun e => e.1⟩
    next misfit =>
      simp only [reduceCtorEq, hx, Option.some.injEq, false_iff]
      rintro ⟨rfl, fits⟩
      exact misfit fits
  next hx => simp [hx]

theorem acknowledgeAtOrigin_applied {s : State} {a : AckFrame} {rest : List AckFrame} {r : Record}
    (h : s.origin.acksIn = a :: rest) (ha : s.ackApplies a = some r) : acknowledgeAtOrigin s =
      State.setMark { s with origin := { s.origin with acksIn := rest } } a.point (s.origin.slot a.point) r a.sender := by
  have ha' : State.ackApplies { s with origin := { s.origin with acksIn := rest } } a = some r := ha
  simp only [acknowledgeAtOrigin, h, ha']
  rfl

theorem acknowledgeAtOrigin_ignored {s : State} {a : AckFrame} {rest : List AckFrame}
    (h : s.origin.acksIn = a :: rest) (ha : s.ackApplies a = none) : acknowledgeAtOrigin s =
      { s with origin := { s.origin with acksIn := rest, acksIgnored := s.origin.acksIgnored + 1 } } := by
  have ha' : State.ackApplies { s with origin := { s.origin with acksIn := rest } } a = none := ha
  simp only [acknowledgeAtOrigin, h, ha']

theorem acknowledgeAtOrigin_of_nil {s : State} (h : s.origin.acksIn = []) : acknowledgeAtOrigin s = s := by
  simp only [acknowledgeAtOrigin, h]

/-- Settles O21: the own ACK by its checks in order, the ACKNOWLEDGE by whether it applies. -/
theorem acknowledgementsSetTheMark : Obligations.AcknowledgementsSetTheMark := by
  refine ⟨fun o k seen s reply hreply => ⟨fun hs => ?own, fun a rest u h hu => ?frame⟩,
    fun s => ⟨fun h => exec_yields rfl (ownAckDecision_of_not h), fun h => exec_yields rfl (acknowledgeAtOrigin_of_nil h)⟩⟩
  case own =>
    obtain rfl : reply = fun m t => t.answerAck m := hreply
    have refused {reason : RefusalReason} (h : s.ownAckCheck k seen = some reason) :
        exec .ownAckDecision s = .next (s.answerAck (.refused 6 reason o k)) :=
      exec_yields rfl (ownAckDecision_refused hs h)
    refine ⟨fun h => refused (State.ownAckCheck_notReady h), fun h hr => refused (State.ownAckCheck_noRecord h hr),
      fun r h hr => ⟨fun hc => refused ?_, fun ho hv => refused ?_, fun ho hv hm => refused ?_, fun ho hv hm => ?_⟩⟩
    · rw [State.ownAckCheck_record h hr, if_pos (by simp [hc])]
    · rw [State.ownAckCheck_record h hr, if_neg (by simp [ho]), if_pos hv]
    · rw [State.ownAckCheck_record h hr, if_neg (by simp [ho]), if_neg (by simp [hv]), if_pos hm]
    · have passes : s.ownAckCheck k seen = none := by
        rw [State.ownAckCheck_record h hr, if_neg (by simp [ho]), if_neg (by simp [hv]), if_neg (by simp [hm])]
      exact exec_yields rfl (ownAckDecision_accepted hs passes hr)
  case frame =>
    subst hu
    refine ⟨fun r hr ht ho hv hm => exec_yields rfl ?_, fun misfit => exec_yields rfl ?_⟩
    · exact acknowledgeAtOrigin_applied h ((s.ackApplies_iff a r).2 ⟨hr, ht, ho, hv, hm⟩)
    · refine acknowledgeAtOrigin_ignored h (Option.eq_none_iff_forall_ne_some.2 fun r hr => ?_)
      obtain ⟨hr, ht, ho, hv, hm⟩ := (s.ackApplies_iff a r).1 hr
      exact misfit r hr ht ho hv hm

/-! ### The walk (R97, R98) -/

theorem OriginUnit.refreshes_iff (o : OriginUnit) (k : Nat) :
    o.refreshes k = true ↔ k = 0 ∨ (o.slot k).record ≠ none := by
  simp [OriginUnit.refreshes, Option.isSome_iff_ne_none]

/-- The Origin Unit once the walk has reached slot k, in a station that is mute or not (R97, R98). -/
def OriginUnit.walked (o : OriginUnit) (k nextStep : Nat) (mute : Bool) : OriginUnit :=
  { o with
    pointer := k
    stepDue := some nextStep
    refreshDue := if o.refreshes k && !mute then some k else none
    slips := (o.slips + if o.refreshDue.isSome then 1 else 0) + if o.refreshes k && mute then 1 else 0 }

theorem walkStep_of_due {s : State} {t : Nat} (h : s.origin.stepDue = some t) (ht : t ≤ s.now) :
    walkStep s = State.wake { s with origin := (s.origin.walked ((s.origin.pointer + 1) % 65)
      (t + stepInterval s.window) (decide (s.loader.state = .mute))) } := by
  simp only [walkStep, h, if_pos ht, OriginUnit.walked, decide_not, ne_eq]

theorem walkStep_of_not {s : State} (h : ∀ t, s.origin.stepDue = some t → s.now < t) : walkStep s = s := by
  cases hs : s.origin.stepDue with
  | none => simp only [walkStep, hs]
  | some t => simp only [walkStep, hs, if_neg (Nat.not_le.2 (h t hs))]

/-- Settles O22: the step by what the slot reached asks for. -/
theorem walkStepMovesThePointer : Obligations.WalkStepMovesThePointer := by
  refine ⟨?step, fun s h => exec_yields rfl (walkStep_of_not h)⟩
  rintro t k s hstep time rfl
  refine ⟨walkStep s, exec_of_wellFormed rfl s, ?_⟩
  rw [walkStep_of_due hstep time]
  generalize hk : (s.origin.pointer + 1) % 65 = k
  refine ⟨?_, ?_⟩
  · rw [State.wake_origin, State.wake_eq]
    rfl
  · rw [State.wake_origin, OriginUnit.walked]
    simp only [Bool.and_eq_true, s.origin.refreshes_iff k, Bool.not_eq_true', decide_eq_false_iff_not,
      decide_eq_true_eq, ne_eq]
    cases s.origin.refreshDue <;> rfl

end Sys2Proof.Machine

/-!
PROOFS. What the commands of each block leave unchanged, as one equation per block: every statement about what a step
keeps reads these instead of the commands.
-/
namespace Sys2Proof.Machine

/-! ### The field side -/

/-- The field side changes itself and hands reports to the Origin Unit. -/
structure FieldFrame (s t : State) : Prop where
  eq : t = { s with field := t.field, origin := { s.origin with reportsIn := t.origin.reportsIn } }

theorem duskChange_frame (on : Bool) (s : State) : FieldFrame s (duskChange on s) := by
  unfold duskChange
  split <;> exact ⟨rfl⟩

theorem duskSettleEnd_frame (s : State) : FieldFrame s (duskSettleEnd s) := by
  unfold duskSettleEnd
  repeat' split
  all_goals exact ⟨rfl⟩

theorem field_frame {i : Instr} (hb : commandBlock i = .field) (ok : i.wellFormed = true) (s : State) :
    FieldFrame s (effect i s) := by
  have ofPoint {p : Nat} {t : State} (only : PointOnly p s t) : FieldFrame s t := ⟨by rw [only.frame]⟩
  cases i <;> cases hb
  case duskChange on => exact duskChange_frame on s
  case duskSettleEnd => exact duskSettleEnd_frame s
  case lampCurrentChange p present => exact ofPoint (lampCurrentChange_pointOnly ok s present)
  case outConfirm p => exact ofPoint (outConfirm_pointOnly ok s)
  case outClear p => exact ofPoint (outClear_pointOnly ok s)
  case dayburnConfirm p => exact ofPoint (dayburnConfirm_pointOnly ok s)
  case dayburnClear p => exact ofPoint (dayburnClear_pointOnly ok s)
  case cyclingWindowExpiry p => exact ofPoint (cyclingWindowExpiry_pointOnly ok s)
  case loopGateEnd p edges => exact ofPoint (loopGateEnd_pointOnly ok s edges)
  case loopBaselinePeriodEnd p => exact ofPoint (loopBaselinePeriodEnd_pointOnly ok s)
  case chatterWindowExpiry p => exact ofPoint (chatterWindowExpiry_pointOnly ok s)
  case signPulse p => exact ofPoint (signPulse_pointOnly ok s)
  case signBurstEnd p => exact ofPoint (signBurstEnd_pointOnly ok s)
  case noHeartbeat p => exact ofPoint (noHeartbeat_pointOnly ok s)
  case supplyContactChange p closed => exact ofPoint (supplyContactChange_pointOnly ok s closed)
  case supplyLossConfirm p => exact ofPoint (supplyLossConfirm_pointOnly ok s)
  case supplyRestoreConfirm p => exact ofPoint (supplyRestoreConfirm_pointOnly ok s)

/-! ### The Origin Unit -/

/-- The transmitter rests and nothing is pending for it (R104, R200). -/
abbrev State.Calm (s : State) : Prop :=
  s.tx.state = .idle ∧ s.origin.changeQueue = [] ∧ s.origin.ackSlot = none ∧ s.origin.refreshDue = none ∧
    s.origin.stepDue = none

/-- What the Origin Unit does: it changes itself, and the transmitter's state and current send; outside IN-STEP the
transmitter rests on, where no changes are queued an empty queue stays empty, and in a REJOIN nothing becomes
pending. -/
structure OriginFrame (s t : State) : Prop where
  eq : t = { s with origin := t.origin, tx := { s.tx with state := t.tx.state, current := t.tx.current } }
  current : t.tx.current = s.tx.current ∨ t.tx.current = none
  rests : s.loader.state ≠ .inStep → s.tx.state = .idle → t.tx.state = .idle
  queue : s.queues = false → s.origin.changeQueue = [] → t.origin.changeQueue = []
  calm : s.rejoining = true → s.Calm → t.Calm

theorem State.Calm.wake {s : State} (h : s.Calm) : s.wake.Calm := by
  obtain ⟨idle, queue, ack, refresh, step⟩ := h
  refine ⟨?_, by rwa [s.wake_origin], by rwa [s.wake_origin], by rwa [s.wake_origin], by rwa [s.wake_origin]⟩
  rw [State.wake_eq]
  simp [idle, queue, ack, refresh]

theorem State.wake_rests {s : State} (hs : s.loader.state ≠ .inStep) (h : s.tx.state = .idle) :
    s.wake.tx.state = .idle := by
  rwa [s.wake_of_not_inStep hs]

theorem State.queues_of_rejoining {s : State} (h : s.rejoining = true) : s.queues = false := by
  simp [State.queues, h]

namespace OriginFrame

variable {s t u : State}

theorem refl (s : State) : OriginFrame s s := ⟨rfl, .inl rfl, fun _ h => h, fun _ h => h, fun _ h => h⟩

theorem loader (h : OriginFrame s t) : t.loader = s.loader := by
  rw [h.eq]

theorem rejoining (h : OriginFrame s t) : t.rejoining = s.rejoining := by
  rw [State.rejoining, State.rejoining, h.loader]

theorem queues (h : OriginFrame s t) : t.queues = s.queues := by
  rw [State.queues, State.queues, h.loader, h.rejoining]

theorem trans (h : OriginFrame s t) (h' : OriginFrame t u) : OriginFrame s u where
  eq := h'.eq.trans (by rw [h.eq])
  current := by
    obtain same | none := h'.current
    · rw [same]
      exact h.current
    · exact .inr none
  rests hs hidle := h'.rests (by rwa [h.loader]) (h.rests hs hidle)
  queue hq hempty := h'.queue (by rwa [h.queues]) (h.queue hq hempty)
  calm hr hcalm := h'.calm (by rwa [h.rejoining]) (h.calm hr hcalm)

theorem ofOrigin (s : State) (o : OriginUnit)
    (queue : s.queues = false → s.origin.changeQueue = [] → o.changeQueue = [])
    (calm : s.rejoining = true → s.Calm → o.ackSlot = none ∧ o.refreshDue = none ∧ o.stepDue = none) :
    OriginFrame s { s with origin := o } := by
  refine ⟨rfl, .inl rfl, fun _ h => h, queue, fun hr hcalm => ⟨hcalm.1, ?_, calm hr hcalm⟩⟩
  obtain ⟨-, empty, -⟩ := hcalm
  exact queue (State.queues_of_rejoining hr) empty

/-- A change to what is not pending work. -/
theorem ofOthers (s : State) (o : OriginUnit) (queue : o.changeQueue = s.origin.changeQueue)
    (ack : o.ackSlot = s.origin.ackSlot) (refresh : o.refreshDue = s.origin.refreshDue)
    (step : o.stepDue = s.origin.stepDue) : OriginFrame s { s with origin := o } :=
  ofOrigin s o (fun _ empty => queue.trans empty) fun _ ⟨_, _, ha, hr, hs⟩ =>
    ⟨ack.trans ha, refresh.trans hr, step.trans hs⟩

theorem wake (h : OriginFrame s t) : OriginFrame s t.wake :=
  h.trans ⟨by rw [State.wake_eq], .inl (by rw [State.wake_current]), State.wake_rests,
    fun _ => by rw [State.wake_origin]; exact id, fun _ => State.Calm.wake⟩

theorem commit (h : OriginFrame s t) (k : Nat) (sl : OwnSlot) (r : Record) : OriginFrame s (t.commit k sl r) := by
  rw [State.commit_eq]
  refine h.trans (OriginFrame.wake (ofOrigin t _ (fun hq empty => ?_) fun _ ⟨_, _, pending⟩ => pending))
  simp [hq, empty]

theorem putSlot (h : OriginFrame s t) (k : Nat) (sl : OwnSlot) : OriginFrame s (t.putSlot k sl) :=
  h.trans (ofOthers t _ rfl rfl rfl rfl)

end OriginFrame

theorem State.takeReport_originFrame (s : State) (p : Nat) (rep : ConditionReport) :
    OriginFrame s (s.takeReport p rep) := by
  unfold State.takeReport
  dsimp only
  repeat' split
  all_goals first
    | exact (OriginFrame.refl s).putSlot ..
    | exact (OriginFrame.refl s).commit ..

theorem State.takeStationReport_originFrame (s : State) (rep : StationReport) :
    OriginFrame s (s.takeStationReport rep) := by
  unfold State.takeStationReport
  dsimp only
  repeat' split
  all_goals first
    | exact .refl s
    | exact (OriginFrame.refl s).putSlot ..
    | exact (OriginFrame.refl s).commit ..

theorem conditionReport_originFrame (p : Nat) (s : State) : OriginFrame s (conditionReport p s) := by
  unfold conditionReport
  split
  · exact .refl s
  · refine (OriginFrame.ofOthers s _ ?_ ?_ ?_ ?_).trans (State.takeReport_originFrame ..)
    all_goals rfl

theorem stationConditionReport_originFrame (src : ReportSource) (s : State) :
    OriginFrame s (stationConditionReport src s) := by
  unfold stationConditionReport
  split
  · exact .refl s
  · refine (OriginFrame.ofOthers s _ ?_ ?_ ?_ ?_).trans (State.takeStationReport_originFrame ..)
    all_goals rfl

theorem flapRelease_originFrame (k : Nat) (s : State) : OriginFrame s (flapRelease k s) := by
  unfold flapRelease
  dsimp only
  repeat' split
  · exact (OriginFrame.refl s).commit ..
  · exact .refl s
  · exact .refl s

theorem State.endSend_originFrame (s : State) : OriginFrame s s.endSend := by
  refine ⟨by rw [State.endSend_frame], .inr (by rw [State.endSend_frame]), fun hs _ => ?_,
    fun _ empty => by rwa [State.endSend_frame], fun _ hcalm => ?_⟩
  · rw [State.endSend_state, if_neg fun h => hs h.1]
  · obtain ⟨-, pending⟩ := hcalm
    exact State.Calm.wake ⟨rfl, pending⟩

theorem State.dropLingered_originFrame (s : State) (k : Nat) : OriginFrame s (s.dropLingered k) := by
  by_cases h : ∃ c, s.tx.state.isSending = false ∧ s.tx.current = some c ∧ c.item.lingersWith k
  · obtain ⟨c, hs, hc, lost⟩ := h
    rw [State.dropLingered_of_lost hs hc lost]
    exact s.endSend_originFrame
  · rw [State.dropLingered_of_kept fun c hs hc lost => h ⟨c, hs, hc, lost⟩]
    exact .refl s

theorem ownLingerEnd_originFrame (k : Nat) (s : State) : OriginFrame s (ownLingerEnd k s) := by
  by_cases h : s.lingerOver k = true
  · rw [ownLingerEnd_of_over h]
    refine (OriginFrame.ofOrigin s _ (fun _ empty => ?_) fun _ hcalm => ?_).trans (State.dropLingered_originFrame ..)
    · simp [OriginUnit.lingered, empty]
    · obtain ⟨-, -, ack, refresh, step⟩ := hcalm
      exact ⟨ack, by simp [OriginUnit.lingered, refresh], step⟩
  · rw [ownLingerEnd_of_not h]
    exact .refl s

theorem holdBegunSignal_originFrame (s : State) : OriginFrame s (holdBegunSignal s) := by
  unfold holdBegunSignal
  split
  · exact .ofOthers s _ rfl rfl rfl rfl
  · exact .refl s

theorem holdEndedSignal_originFrame (s : State) : OriginFrame s (holdEndedSignal s) := by
  unfold holdEndedSignal
  split
  · refine (OriginFrame.ofOrigin s _ ?_ ?_).wake
    · intro hq empty
      simp only [hq, Bool.false_eq_true, if_false]
      exact empty
    · intro hr ⟨_, _, pending⟩
      simp only [State.queues_of_rejoining hr, Bool.false_eq_true, if_false]
      exact pending
  · exact .refl s

theorem acknowledgeAtOrigin_originFrame (s : State) : OriginFrame s (acknowledgeAtOrigin s) := by
  unfold acknowledgeAtOrigin
  dsimp only [State.setMark]
  repeat' split
  · exact .refl s
  · refine (OriginFrame.ofOthers s _ ?_ ?_ ?_ ?_).commit ..
    all_goals rfl
  · exact .ofOthers s _ rfl rfl rfl rfl

theorem walkStep_originFrame (s : State) : OriginFrame s (walkStep s) := by
  unfold walkStep
  split
  next t ht =>
    split
    · refine (OriginFrame.ofOrigin s _ ?_ ?_).wake
      · exact fun _ empty => empty
      · intro _ ⟨_, _, _, _, step⟩
        rw [step] at ht
        cases ht
    · exact .refl s
  next => exact .refl s

/-- What the decision on a dispatcher's ACK does: nothing, or a reply after the Origin Unit's own move. -/
theorem ownAckDecision_cases (s : State) : ownAckDecision s = s ∨
    ∃ o k seen t r, s.port.service = .ownAck o k seen ∧ OriginFrame s t ∧ ownAckDecision s = t.answerAck r := by
  cases hs : s.port.service with
  | ownAck o k seen =>
    cases hc : s.ownAckCheck k seen with
    | some reason => exact .inr ⟨o, k, seen, s, _, rfl, .refl s, ownAckDecision_refused hs hc⟩
    | none =>
      cases hr : (s.origin.slot k).record with
      | some r => exact .inr ⟨o, k, seen, _, _, rfl, (OriginFrame.refl s).commit .., ownAckDecision_accepted hs hc hr⟩
      | none => exact .inl (by simp only [ownAckDecision, hs, hc, hr])
  | free => exact .inl (by simp only [ownAckDecision, hs])
  | pageBuild => exact .inl (by simp only [ownAckDecision, hs])
  | rejoin => exact .inl (by simp only [ownAckDecision, hs])

/-- A command of the Origin Unit but the decision on a dispatcher's ACK leaves the port alone. -/
theorem originFrame_of_block {i : Instr} (hb : commandBlock i = .origin) (hi : i ≠ .ownAckDecision) (s : State) :
    OriginFrame s (effect i s) := by
  cases i <;> cases hb
  case conditionReport p => exact conditionReport_originFrame p s
  case stationConditionReport src => exact stationConditionReport_originFrame src s
  case flapRelease k => exact flapRelease_originFrame k s
  case ownLingerEnd k => exact ownLingerEnd_originFrame k s
  case holdBegunSignal => exact holdBegunSignal_originFrame s
  case holdEndedSignal => exact holdEndedSignal_originFrame s
  case ownAckDecision => exact absurd rfl hi
  case acknowledgeAtOrigin => exact acknowledgeAtOrigin_originFrame s
  case walkStep => exact walkStep_originFrame s

/-! ### The timers of the line, and the deadlines -/

/-- The line's timers change the station state, the transmitter's timers and the clash timer, and hand a station report
on. -/
structure TimersFrame (s t : State) : Prop where
  eq : t = { s with
    loader := { s.loader with state := t.loader.state }
    origin := { s.origin with stationIn := t.origin.stationIn }
    rx := { s.rx with clashEnd := t.rx.clashEnd }
    tx := { s.tx with
      state := t.tx.state, failures := t.tx.failures, muteEnd := t.tx.muteEnd, clearEnd := t.tx.clearEnd } }

theorem timers_frame {i : Instr} (hb : commandBlock i = .timers) (s : State) : TimersFrame s (effect i s) := by
  cases i <;> cases hb
  case clashTimerEnd =>
    simp only [effect, clashTimerEnd]
    split <;> exact ⟨rfl⟩
  case lineMuteClearTimerEnd =>
    simp only [effect, lineMuteClearTimerEnd]
    split <;> exact ⟨rfl⟩
  case muteEnd =>
    simp only [effect, muteEnd]
    split
    · exact ⟨by rw [State.wake_eq]⟩
    · exact ⟨rfl⟩

/-- What the end of a MUTE can do (R149). -/
theorem muteEnd_cases (s : State) : muteEnd s = s ∨ s.loader.state = .mute ∧ (∃ e, s.tx.muteEnd = some e ∧ e ≤ s.now) ∧
    muteEnd s = State.wake { s with
      loader := { s.loader with state := .inStep }, tx := { s.tx with muteEnd := none, failures := 15 } } := by
  unfold muteEnd
  split
  next h =>
    obtain ⟨ends, mute⟩ : due s.tx.muteEnd s.now = true ∧ s.loader.state = .mute := by simpa using h
    exact .inr ⟨mute, (due_iff ..).1 ends, rfl⟩
  next => exact .inl rfl

/-- A deadline that falls due changes the waiting timer claims and the roster alone. -/
structure DeadlinesFrame (s t : State) : Prop where
  eq : t = { s with table := { s.table with timers := t.table.timers }, roster := t.roster }

theorem State.addTimer_frame (s : State) (c : TimerClaim) : DeadlinesFrame s (s.addTimer c) := by
  unfold State.addTimer
  split <;> exact ⟨rfl⟩

theorem deadlines_frame {i : Instr} (hb : commandBlock i = .deadlines) (s : State) : DeadlinesFrame s (effect i s) := by
  cases i <;> cases hb
  case silenceDeadline n =>
    simp only [effect, silenceDeadline]
    repeat' split
    all_goals exact ⟨rfl⟩
  case lingerDeadlineDue o p =>
    simp only [effect, lingerDeadlineDue]
    repeat' split
    case isTrue => exact s.addTimer_frame _
    all_goals exact ⟨rfl⟩
  case graceDeadlineDue g =>
    simp only [effect, graceDeadlineDue]
    repeat' split
    case isTrue => exact s.addTimer_frame _
    all_goals exact ⟨rfl⟩

/-! ### The dispatcher port -/

theorem DispatcherPort.offer_frame (p : DispatcherPort) (r : Request) : p.offer r = { p with
    requests := (p.offer r).requests, discarded := (p.offer r).discarded } := by
  unfold DispatcherPort.offer
  split <;> rfl

theorem DispatcherPort.offerAll_frame (p : DispatcherPort) : p.offerAll = { p with
    finished := [], requests := p.offerAll.requests, discarded := p.offerAll.discarded } := by
  have all (l : List Request) (q : DispatcherPort) : l.foldl DispatcherPort.offer q = { q with
      requests := (l.foldl DispatcherPort.offer q).requests
      discarded := (l.foldl DispatcherPort.offer q).discarded } := by
    induction l generalizing q with
    | nil => rfl
    | cons r l ih => rw [List.foldl_cons, ih, DispatcherPort.offer_frame]
  rw [DispatcherPort.offerAll, all]

/-- The request assembler and the offers to the request queue leave everything else of the port alone. -/
structure AssemblerFrame (s t : State) : Prop where
  eq : t = { s with port := { s.port with
    assembler := t.port.assembler, finished := t.port.finished, requests := t.port.requests
    discarded := t.port.discarded } }

theorem assembler_frame {i : Instr} (hb : commandBlock i = .assembler) (s : State) :
    AssemblerFrame s (effect i s) := by
  cases i <;> cases hb
  case requestCharacterTaken char stopFound =>
    simp only [effect, requestCharacterTaken, DispatcherPort.takeChar, DispatcherPort.gather, DispatcherPort.settleGap]
    repeat' split
    all_goals exact ⟨rfl⟩
  case requestComplete =>
    simp only [effect, requestComplete]
    split
    · exact ⟨rfl⟩
    · exact ⟨by rw [DispatcherPort.offer_frame]⟩
  case requestGapTimeout =>
    simp only [effect, requestGapTimeout]
    repeat' split
    · exact ⟨by rw [DispatcherPort.offer_frame, DispatcherPort.offerAll_frame]⟩
    all_goals exact ⟨rfl⟩

/-- The request service changes the port; its ACK fills the ack slot and may wake the transmitter; its REJOIN stops the
timers and marks the REJOIN in progress. -/
structure ServiceFrame (s t : State) : Prop where
  eq : t = { s with
    loader := { s.loader with rejoin := t.loader.rejoin, listenEnd := t.loader.listenEnd }
    origin := { s.origin with ackSlot := t.origin.ackSlot }
    tx := { s.tx with state := t.tx.state, muteEnd := t.tx.muteEnd }
    port := t.port }

theorem service_frame {i : Instr} (hb : commandBlock i = .service) (s : State) : ServiceFrame s (effect i s) := by
  cases i <;> cases hb
  case ack =>
    simp only [effect, ack]
    repeat' split
    case isFalse => exact ⟨by rw [State.fillAckSlot, State.wake_eq]; rfl⟩
    all_goals exact ⟨rfl⟩
  all_goals simp only [effect, status, view, dump, next, stop, rejoin, malformedRequest]
  all_goals repeat' split
  all_goals exact ⟨rfl⟩

/-- The sending of reports and the dump's idle deadline are a matter of the port alone. -/
structure OutputFrame (s t : State) : Prop where
  eq : t = { s with port := t.port }

theorem output_frame {i : Instr} (hb : commandBlock i = .output) (s : State) : OutputFrame s (effect i s) := by
  cases i <;> cases hb
  all_goals simp only [effect, readyAsserted, reportDelivered, dumpIdleTimeout]
  all_goals repeat' split
  all_goals exact ⟨rfl⟩

end Sys2Proof.Machine

/-!
PROOFS. What the commands of the corridor line do to the state, as a chain of moves: line time and the receiver's own
registers, a turn, a clash, an arrival, and the start, the echo, the failure and the success of an attempt.
-/
namespace Sys2Proof.Machine

/-! ### The ways a failed attempt ends (R143, R146 to R148, R152) -/

/-- The failure is counted, and the character being put out is finished. -/
def State.failCounted (s : State) : State :=
  { s with tx := { s.tx with
      collisions := s.tx.collisions + 1, failures := min (s.tx.failures + 1) 16, outEnd := s.cutOff } }

/-- The transmitter rests. -/
def State.rest (s : State) : State := { s with tx := { s.tx with state := .idle } }

/-- The current send waits for its next attempt, with a backoff drawn (R140). -/
def State.retry (s : State) (c : CurrentSend) : State :=
  { s with
    freeIx := s.freeIx + 1
    tx := { s.tx with
      state := .waiting
      current := some { c with fails := c.fails + 1, backoff := drawBackoff s.freeIx (c.fails + 1) } } }

/-- Where an item that is abandoned leaves the station (R146). -/
def State.abandonItem (s : State) : SendItem → State
  | .change k =>
    { s with origin := { s.origin with changeQueue := s.origin.changeQueue.filter (fun j => decide (j ≠ k)) } }
  | .refresh _ => s
  | .ack =>
    match s.origin.ackSlot with
    | some a =>
      { s with
        origin := { s.origin with ackSlot := none }
        port := s.port.gate { report := .ackUnsent a.origin a.point a.seen, before := none } }
    | none => s

/-- One more send has been abandoned. -/
def State.countAbandoned (s : State) : State := { s with tx := { s.tx with abandoned := s.tx.abandoned + 1 } }

theorem State.abandon_eq (s : State) (i : SendItem) : s.abandon i = (s.abandonItem i).countAbandoned.endSend := by
  cases i <;> rfl

section AttemptFail

variable {s : State} {c : CurrentSend}

theorem State.attemptFail_of_none (h : s.tx.current = none) : s.attemptFail = s.failCounted.rest := by
  simp only [State.attemptFail, State.failCounted, State.rest, h]

theorem State.attemptFail_of_rejoining (h : s.rejoining = true) : s.attemptFail = s.failCounted.rest := by
  cases hc : s.tx.current with
  | none => exact State.attemptFail_of_none hc
  | some c =>
    simp only [State.attemptFail, State.failCounted, State.rest, hc, h, if_true]

variable (hc : s.tx.current = some c) (hr : s.rejoining = false)
include hc hr

theorem State.attemptFail_of_last (hn : 15 ≤ s.tx.failures) : s.attemptFail = s.failCounted.enterMute c.item := by
  have last : min (s.tx.failures + 1) 16 = 16 := by omega
  simp only [State.attemptFail, State.failCounted, hc, hr, last, Bool.false_eq_true, if_false, if_true]

variable (hn : s.tx.failures < 15)
include hn

theorem State.attemptFail_of_eighth (hf : 8 ≤ c.fails + 1) : s.attemptFail = s.failCounted.abandon c.item := by
  have more : min (s.tx.failures + 1) 16 ≠ 16 := by omega
  simp only [State.attemptFail, State.failCounted, hc, hr, Bool.false_eq_true, if_false, if_neg more, if_pos hf]

theorem State.attemptFail_of_gone (hf : c.fails + 1 < 8) (hi : s.itemStands c.item = false) :
    s.attemptFail = s.failCounted.endSend := by
  have more : min (s.tx.failures + 1) 16 ≠ 16 := by omega
  simp only [State.attemptFail, State.failCounted, hc, hr, Bool.false_eq_true, if_false, if_neg more,
    if_neg (Nat.not_le.2 hf), hi, Bool.not_false, if_true]

theorem State.attemptFail_of_stands (hf : c.fails + 1 < 8) (hi : s.itemStands c.item = true) :
    s.attemptFail = s.failCounted.retry c := by
  have more : min (s.tx.failures + 1) 16 ≠ 16 := by omega
  simp only [State.attemptFail, State.failCounted, State.retry, hc, hr, Bool.false_eq_true, if_false, if_neg more,
    if_neg (Nat.not_le.2 hf), hi, Bool.not_true]

end AttemptFail

/-- What a failed attempt can leave. -/
inductive Failed (s : State) : State → Prop
  | rested : Failed s s.failCounted.rest
  | muted (c : CurrentSend) (hr : s.rejoining = false) : Failed s (s.failCounted.enterMute c.item)
  | abandoned (c : CurrentSend) (hr : s.rejoining = false) : Failed s (s.failCounted.abandon c.item)
  | ended (hr : s.rejoining = false) : Failed s s.failCounted.endSend
  | retried (c : CurrentSend) (hr : s.rejoining = false) (hc : s.tx.current = some c) (hf : c.fails + 1 < 8) :
    Failed s (s.failCounted.retry c)

theorem State.attemptFail_failed (s : State) : Failed s s.attemptFail := by
  cases hc : s.tx.current with
  | none => rw [State.attemptFail_of_none hc]; exact .rested
  | some c =>
    cases hr : s.rejoining with
    | true => rw [State.attemptFail_of_rejoining hr]; exact .rested
    | false =>
      by_cases hn : s.tx.failures < 15
      · by_cases hf : c.fails + 1 < 8
        · cases hi : s.itemStands c.item with
          | true => rw [State.attemptFail_of_stands hc hr hn hf hi]; exact .retried c hr hc hf
          | false => rw [State.attemptFail_of_gone hc hr hn hf hi]; exact .ended hr
        · rw [State.attemptFail_of_eighth hc hr hn (Nat.not_lt.1 hf)]; exact .abandoned c hr
      · rw [State.attemptFail_of_last hc hr (Nat.not_lt.1 hn)]; exact .muted c hr

/-! ### The ways an access moment ends (R139, R141) -/

/-- What an access moment can leave. -/
inductive Accessed (s : State) : State → Prop
  | resumed (c : CurrentSend) (f : List Byte × Carried) (hc : s.tx.current = some c)
    (hf : s.buildFrame c.item = some f) : Accessed s (s.startAttempt c f)
  | ended : Accessed s s.endSend
  | rested : Accessed s s.rest
  | begun (i : SendItem) (f : List Byte × Carried) (hi : s.chooseItem = some i) (hf : s.buildFrame i = some f) :
    Accessed s ((s.takeRefresh i).startAttempt { item := i, fails := 0, backoff := 0 } f)

theorem State.access_accessed (s : State) : Accessed s s.access := by
  unfold State.access
  split
  next c hc =>
    split
    next f hf => exact .resumed c f hc hf
    next => exact .ended
  next =>
    split
    next => exact .rested
    next i hi =>
      split
      next f hf => exact .begun i f hi hf
      next => exact .ended

/-! ### The moves of the line -/

/-- A frame from another station. -/
def State.isPeer (s : State) (n : Nat) : Prop := stationOk n = true ∧ n ≠ s.own

/-- The moves that the commands of the line are made of. -/
inductive LineMove : State → State → Prop
  | receiver (s t : State) (frame : t = { s with rx := t.rx }) (hq : t.rx.queue = s.rx.queue) : LineMove s t
  | turn (s : State) : LineMove s s.moveTurn
  | clash (s : State) : LineMove s s.numberClash
  | arrival (s : State) (f : PeerFrame) (hf : s.isPeer f.sender) : LineMove s (s.frameArrives f)
  | failure (s : State) (h : s.tx.state.isSending = true) : LineMove s s.attemptFail
  | success (s : State) (a : Attempt) (h : s.tx.state = .sending a) : LineMove s (s.attemptSucceed a)
  | echo (s : State) (a b : Attempt) (h : s.tx.state = .sending a) :
    LineMove s { s with tx := { s.tx with state := .sending b } }
  | access (s : State) (h : s.mayAccess = true) : LineMove s s.access

/-- The moves of a command, one after another. -/
abbrev LineMoves : State → State → Prop := Relation.ReflTransGen LineMove

theorem LineMove.all {s t : State} (h : LineMove s t) : LineMoves s t := .single h

theorem judgeRun_valid_sender {lacked : Bool} {chars : List Byte} {f : PeerFrame} (h : judgeRun lacked chars = .valid f) :
    stationOk f.sender = true := by
  unfold judgeRun at h
  dsimp only at h
  repeat' split at h
  all_goals cases h
  rename_i ok _ _ _ _
  simpa using ok

theorem State.closeRun_moves (s : State) : LineMoves s s.closeRun := by
  unfold State.closeRun
  cases hr : s.rx.run with
  | none => exact .refl
  | some r =>
    refine Relation.ReflTransGen.head (.receiver s { s with rx := { s.rx with run := none } } rfl rfl) ?_
    generalize ({ s with rx := { s.rx with run := none } } : State) = u
    dsimp only
    split
    · unfold State.takeEcho
      split
      next a ha =>
        split
        · exact (LineMove.success u a ha).all
        · exact (LineMove.failure u (by rw [ha]; rfl)).all
      next => exact .refl
    · unfold State.takeRun
      split
      next => exact .single (.receiver u _ rfl rfl)
      next => exact .single (.receiver u _ rfl rfl)
      next f hf =>
        split
        · exact (LineMove.turn u).all.tail (.clash _)
        · next other => exact (LineMove.turn u).all.tail (.arrival _ f ⟨judgeRun_valid_sender hf, other⟩)

theorem State.passLine_moves (s : State) (dt : Nat) : LineMoves s (s.passLine dt) := .single (.receiver s _ rfl rfl)

theorem State.closeOverdue_moves (s : State) : LineMoves s s.closeOverdue := by
  unfold State.closeOverdue
  repeat' split
  · exact s.closeRun_moves
  · exact .refl
  · exact .refl

theorem State.failOverdue_moves (s : State) : LineMoves s s.failOverdue := by
  unfold State.failOverdue
  split
  next a ha =>
    split
    · exact (LineMove.failure s (by rw [ha]; rfl)).all
    · exact .refl
  next => exact .refl

theorem State.joinRun_moves (s : State) (char : Byte) (stopFound : Bool) : LineMoves s (s.joinRun char stopFound) :=
  .single (.receiver s _ rfl rfl)

theorem State.checkEcho_moves (s : State) (char : Byte) (stopFound : Bool) : LineMoves s (s.checkEcho char stopFound) := by
  unfold State.checkEcho
  split
  next a r ha _ =>
    repeat' split
    · exact (LineMove.echo s a _ ha).all
    · exact (LineMove.failure s (by rw [ha]; rfl)).all
    · exact .refl
  next => exact .refl

/-- A command of the line does nothing with no profile in force, and is a chain of moves otherwise (R130, R195). -/
theorem line_moves {i : Instr} (hb : commandBlock i = .line) (s : State) :
    effect i s = s ∨ s.running = true ∧ LineMoves s (effect i s) := by
  cases hrun : s.running with
  | false =>
    left
    cases i <;> cases hb
    all_goals simp [effect, lineCharacterHeard, echoTimeout, runClose, accessMoment, hrun]
  | true =>
    refine .inr ⟨rfl, ?_⟩
    cases i <;> cases hb
    case true.lineCharacterHeard.refl char stopFound dt =>
      simp only [effect, lineCharacterHeard, hrun, if_true]
      exact (s.passLine_moves dt).trans <| (State.closeOverdue_moves _).trans <|
        (State.failOverdue_moves _).trans <| (State.joinRun_moves ..).trans (State.checkEcho_moves ..)
    case true.echoTimeout.refl dt =>
      simp only [effect, echoTimeout, hrun, if_true]
      refine (s.passLine_moves dt).trans ?_
      split
      next a ha =>
        split
        · exact (LineMove.failure _ (by rw [ha]; rfl)).all
        · exact .refl
      next => exact .refl
    case true.runClose.refl dt =>
      simp only [effect, runClose, hrun, if_true]
      refine (s.passLine_moves dt).trans ?_
      repeat' split
      · exact State.closeRun_moves _
      · exact .refl
      · exact .refl
    case true.accessMoment.refl dt =>
      simp only [effect, accessMoment, hrun, if_true]
      refine (s.passLine_moves dt).trans <| (State.closeOverdue_moves _).trans ?_
      split
      next h => exact (LineMove.access _ h).all
      next => exact .refl

/-! ### What every move leaves alone -/

/-- The frame of the line's commands. -/
structure LineFrame (s t : State) : Prop where
  eq : t = { s with
    freeIx := t.freeIx, loader := { s.loader with state := t.loader.state }, origin := t.origin, roster := t.roster
    rx := t.rx, tx := t.tx, port := t.port }

namespace LineFrame

variable {s t u : State}

theorem refl (s : State) : LineFrame s s := ⟨rfl⟩

theorem trans (h : LineFrame s t) (h' : LineFrame t u) : LineFrame s u := ⟨h'.eq.trans (by rw [h.eq])⟩

theorem wake (h : LineFrame s t) : LineFrame s t.wake := h.trans ⟨by rw [State.wake_eq]⟩

theorem endSend (h : LineFrame s t) : LineFrame s t.endSend := h.trans ⟨by rw [State.endSend_frame]⟩

end LineFrame

theorem State.abandonItem_lineFrame (s : State) (i : SendItem) : LineFrame s (s.abandonItem i) := by
  cases i with
  | change k => exact ⟨rfl⟩
  | refresh k => exact .refl s
  | ack =>
    unfold State.abandonItem
    dsimp only
    split <;> exact ⟨rfl⟩

theorem Failed.lineFrame {s t : State} (h : Failed s t) : LineFrame s t := by
  cases h with
  | rested => exact ⟨rfl⟩
  | muted c => exact ⟨rfl⟩
  | abandoned c =>
    rw [State.abandon_eq]
    have counted : LineFrame s s.failCounted := ⟨rfl⟩
    exact ((counted.trans (State.abandonItem_lineFrame ..)).trans ⟨rfl⟩).endSend
  | ended => exact LineFrame.endSend ⟨rfl⟩
  | retried c => exact ⟨rfl⟩

theorem State.takeRefresh_eq (s : State) (i : SendItem) :
    s.takeRefresh i = { s with origin := { s.origin with refreshDue := (s.takeRefresh i).origin.refreshDue } } := by
  cases i <;> rfl

theorem Accessed.lineFrame {s t : State} (h : Accessed s t) : LineFrame s t := by
  cases h with
  | resumed c f => exact ⟨rfl⟩
  | ended => exact (LineFrame.refl s).endSend
  | rested => exact ⟨rfl⟩
  | begun i f =>
    rw [State.takeRefresh_eq]
    exact ⟨rfl⟩

theorem LineMove.frame {s t : State} (h : LineMove s t) : LineFrame s t := by
  cases h with
  | receiver _ frame => exact ⟨by rw [frame]⟩
  | turn => exact ⟨rfl⟩
  | clash => exact ⟨rfl⟩
  | arrival f hf => exact ⟨rfl⟩
  | failure hs => exact s.attemptFail_failed.lineFrame
  | success a ha => exact LineFrame.endSend ⟨rfl⟩
  | echo a b ha => exact ⟨rfl⟩
  | access hm => exact s.access_accessed.lineFrame

theorem LineMoves.frame {s t : State} (h : LineMoves s t) : LineFrame s t := by
  induction h with
  | refl => exact .refl s
  | tail _ move ih => exact ih.trans move.frame

/-- What every move keeps while a profile is in force, every command of the line keeps. -/
theorem line_keeps {P : State → Prop} {i : Instr} (hb : commandBlock i = .line)
    (move : ∀ s t, s.running = true → P s → LineMove s t → P t) {s : State} (hs : P s) : P (effect i s) := by
  obtain same | ⟨run, moves⟩ := line_moves hb s
  · rwa [same]
  · generalize effect i s = t at moves
    induction moves with
    | refl => exact hs
    | tail before step ih =>
      refine move _ _ ?_ ih step
      rw [State.running, (LineMoves.frame before).eq]
      exact run

end Sys2Proof.Machine

/-!
PROOFS. What the claims of the Table Engine do to the state: each closes some work on the tables, and the work is made
of the operations of R16 to R20 on records that the manual's checks have passed.
-/
namespace Sys2Proof.Machine

/-! ### What an announcement that passes the content check says (R116, R153) -/

/-- An announcement makes a sound record. -/
structure Announcement.Sound (a : Announcement) : Prop where
  point : a.point ≤ 64
  ack : a.state = .cleared → a.ack = none
  conds : a.conds ≠ []
  occurrences : ∀ n ∈ a.occurrences, 1 ≤ n ∧ n ≤ 255

theorem byteAt_le (l : List Byte) (i : Nat) : byteAt l i ≤ 255 := by
  have := (l.getD i 0).isLt
  unfold byteAt
  omega

theorem ackOf_cleared (n : Nat) : ackOf .cleared n = none := by
  simp [ackOf]

theorem readRecord_sound {b : List Byte} {f : RecordBody} (h : readRecord b = some f) : f.ann.Sound := by
  unfold readRecord at h
  dsimp only at h
  split at h
  next k c hk hc =>
    split at h
    next ok =>
      cases h
      have ok' : byteAt b 2 ≤ 64 ∧ 1 ≤ byteAt b 14 := by
        simp only [Bool.and_eq_true, decide_eq_true_eq, pointOk] at ok
        omega
      refine ⟨ok'.1, fun st => ?_, by simp, fun n hn => ?_⟩
      · simp only at st
        simp only [st, ackOf_cleared]
      · obtain rfl : byteAt b 14 = n := by simpa using hn
        exact ⟨ok'.2, byteAt_le b 14⟩
    next => cases h
  next => cases h

theorem readStationPart_sound {b : List Byte} {a : Announcement} (h : readStationPart b = some (some a)) : a.Sound := by
  unfold readStationPart at h
  dsimp only at h
  split at h
  next => cases h
  next =>
    split at h
    next c cs hl =>
      split at h
      next ok =>
        cases h
        refine ⟨Nat.zero_le _, fun st => ?_, by simp, fun n hn => by cases hn⟩
        simp only at st
        simp only [st, ackOf_cleared]
      next => cases h
    next => cases h

theorem readRoll_sound {b : List Byte} {f : RollBody} {a : Announcement} (h : readRoll b = some f) (ha : f.part = some a) :
    a.Sound := by
  unfold readRoll at h
  split at h
  next =>
    split at h
    next part hp =>
      cases h
      exact readStationPart_sound (hp.trans (congrArg some ha))
    next => cases h
  next => cases h

/-! ### Records as the table holds them -/

/-- What the CFT asks of a record it holds. -/
def Record.Holdable (r : Record) : Prop := r.key.point ≤ 64 ∧ r.sound

theorem Announcement.Sound.inserted {a : Announcement} (h : a.Sound) (s : State) (n : Nat) :
    (a.inserted s n).Holdable := by
  refine ⟨h.point, ?_, ?_, ?_, ?_, h.conds⟩
  · cases hs : a.state <;> simp [Announcement.inserted, hs]
  · intro mark
    cases hs : a.state with
    | opened => exact hs
    | cleared => simp [Announcement.inserted, h.ack hs] at mark
  all_goals
    cases ho : a.occurrences with
    | none => simp [Announcement.inserted, ho]
    | some n =>
      obtain ⟨one, most⟩ := h.occurrences n ho
      simp only [Announcement.inserted, ho, Option.getD_some]
      omega

theorem Announcement.Sound.replaced {a : Announcement} (h : a.Sound) (s : State) {old : Record} (ho : old.Holdable) :
    (a.replaced s old).Holdable := by
  obtain ⟨point, -, -, one, most, -⟩ := ho
  refine ⟨point, ?_, ?_, ?_, ?_, h.conds⟩
  · cases hs : a.state <;> simp [Announcement.replaced, hs]
  · intro mark
    cases hs : a.state with
    | opened => exact hs
    | cleared => simp [Announcement.replaced, h.ack hs] at mark
  all_goals
    cases ho : a.occurrences with
    | none => simpa only [Announcement.replaced, ho, Option.getD_none]
    | some n =>
      obtain ⟨one, most⟩ := h.occurrences n ho
      simp only [Announcement.replaced, ho, Option.getD_some]
      omega

@[simp] theorem Announcement.replaced_key (a : Announcement) (s : State) (old : Record) :
    (a.replaced s old).key = old.key := rfl

/-! ### The work of a claim -/

/-- What claims make of the tables of a station: the operations of chapter 1 on holdable records, the end of a group's
grace, and changes to what is neither a record nor a group entry. -/
inductive Worked (u : State) : Work → Prop
  | start : Worked u (Work.begin u.table)
  | note {w v : Work} (h : Worked u w) (cft : v.te.cft = w.te.cft) (groups : v.te.groups = w.te.groups)
    (full : v.te.groupTableFull = w.te.groupTableFull) (touched : v.touched = w.touched) (ended : v.ended = w.ended) :
    Worked u v
  | place {w : Work} (h : Worked u w) (r : Record) (absent : findRecord w.te.cft r.key = none) (hr : r.Holdable)
    (room : r.key.origin = u.own ∨ peerCount u.own w.te.cft < Config.peerPlaces) : Worked u (w.place r)
  | replace {w : Work} (h : Worked u w) (old r : Record) (held : findRecord w.te.cft r.key = some old)
    (hr : r.Holdable) : Worked u (w.replace old r)
  | refresh {w : Work} (h : Worked u w) (now : Nat) (r : Record) (held : findRecord w.te.cft r.key = some r) :
    Worked u (w.refresh now r)
  | delete {w : Work} (h : Worked u w) (k : Key) (c : DeleteCause) : Worked u (w.delete k c)
  | markStale {w : Work} (h : Worked u w) (n : Nat) : Worked u (w.markStale n)
  | graceEnd {w : Work} (h : Worked u w) (g d : Nat)
    (returning : ∃ e, findEntry w.te.groups g = some e ∧ e.state = .returning d) :
    Worked u { w with te := { w.te with groups := eraseGroup g w.te.groups }, ended := [g] }

namespace Worked

variable {u : State} {w : Work}

theorem deleteAll (h : Worked u w) (l : List Key) (c : DeleteCause) : Worked u (w.deleteAll l c) := by
  unfold Work.deleteAll
  induction l generalizing w with
  | nil => exact h
  | cons k l ih => exact ih (h.delete k c)

end Worked

/-! ### The tables in order (R2, R32) -/

/-- The tables of station `own` with their orders and bounds. -/
structure SafeTables (own : Nat) (te : TableEngine) : Prop where
  order : (te.cft.map (·.key)).Pairwise (fun a b => a.lt b = true)
  holdable : ∀ r ∈ te.cft, r.Holdable
  peers : peerCount own te.cft ≤ Config.peerPlaces
  groupOrder : (te.groups.map (·.group)).Pairwise (· < ·)
  groupRoom : te.groups.length ≤ Config.groupPlaces

theorem tableSafe_iff (s : State) : TableSafe s ↔ SafeTables s.own s.table :=
  ⟨fun ⟨order, holdable, peers, groupOrder, groupRoom⟩ => ⟨order, holdable, peers, groupOrder, groupRoom⟩,
    fun ⟨order, holdable, peers, groupOrder, groupRoom⟩ => ⟨order, holdable, peers, groupOrder, groupRoom⟩⟩

theorem Key.lt_iff (a b : Key) : a.lt b = true ↔ a.origin < b.origin ∨ a.origin = b.origin ∧ a.point < b.point := by
  simp [Key.lt]

theorem Key.lt_trans {a b c : Key} (h : a.lt b = true) (h' : b.lt c = true) : a.lt c = true := by
  rw [Key.lt_iff] at *
  omega

theorem Key.lt_of_not_lt {a b : Key} (h : ¬a.lt b = true) (hne : a ≠ b) : b.lt a = true := by
  rw [Key.lt_iff] at *
  obtain ⟨o, p⟩ := a
  obtain ⟨o', p'⟩ := b
  simp only [ne_eq, Key.mk.injEq] at *
  omega

theorem insertRecord_perm (r : Record) (l : List Record) : (insertRecord r l).Perm (r :: l) := by
  induction l with
  | nil => exact .refl _
  | cons x l ih =>
    unfold insertRecord
    split
    · exact .refl _
    · exact (ih.cons x).trans (.swap r x l)

theorem findRecord_eq_none {l : List Record} {k : Key} : findRecord l k = none ↔ ∀ r ∈ l, r.key ≠ k := by
  simp [findRecord, List.find?_eq_none]

theorem insertRecord_order {r : Record} {l : List Record} (absent : findRecord l r.key = none)
    (h : (l.map (·.key)).Pairwise (fun a b => a.lt b = true)) :
    ((insertRecord r l).map (·.key)).Pairwise (fun a b => a.lt b = true) := by
  induction l with
  | nil => simp [insertRecord]
  | cons x l ih =>
    rw [findRecord_eq_none] at absent
    obtain ⟨first, rest⟩ := List.pairwise_cons.1 h
    unfold insertRecord
    split
    next lt =>
      refine List.pairwise_cons.2 ⟨fun k hk => ?_, h⟩
      obtain rfl | hk := List.mem_cons.1 hk
      · exact lt
      · exact Key.lt_trans lt (first k hk)
    next lt =>
      have after : x.key.lt r.key = true := Key.lt_of_not_lt lt (Ne.symm (absent x List.mem_cons_self))
      refine List.pairwise_cons.2 ⟨fun k hk => ?_, ih ?_ rest⟩
      · have hk' : k = r.key ∨ k ∈ l.map (·.key) := by
          simpa using (((insertRecord_perm r l).map (·.key)).mem_iff (a := k)).1 hk
        obtain rfl | hk' := hk'
        · exact after
        · exact first k hk'
      · exact findRecord_eq_none.2 fun y hy => absent y (List.mem_cons_of_mem _ hy)

theorem putRecord_keys (r : Record) (l : List Record) : (putRecord r l).map (·.key) = l.map (·.key) := by
  rw [putRecord, List.map_map]
  refine List.map_congr_left fun x _ => ?_
  by_cases h : x.key = r.key <;> simp [h]

theorem mem_putRecord {r x : Record} {l : List Record} (h : x ∈ putRecord r l) : x = r ∨ x ∈ l := by
  obtain ⟨y, hy, rfl⟩ := List.mem_map.1 h
  split
  · exact .inl rfl
  · exact .inr hy

theorem eraseRecord_sublist (k : Key) (l : List Record) : (eraseRecord k l).Sublist l := List.filter_sublist

/-- The peer records are counted by their keys alone. -/
theorem peerCount_eq_keys (own : Nat) (l : List Record) :
    peerCount own l = (l.map (·.key)).countP (fun k => decide (k.origin ≠ own)) := by
  rw [peerCount, ← List.countP_eq_length_filter, List.countP_map]
  rfl

theorem peerCount_insertRecord (own : Nat) (r : Record) (l : List Record) :
    peerCount own (insertRecord r l) = peerCount own l + if r.key.origin = own then 0 else 1 := by
  rw [peerCount_eq_keys, ((insertRecord_perm r l).map _).countP_eq, List.map_cons, List.countP_cons,
    ← peerCount_eq_keys]
  by_cases h : r.key.origin = own <;> simp [h]

theorem peerCount_eraseRecord_le (own : Nat) (k : Key) (l : List Record) :
    peerCount own (eraseRecord k l) ≤ peerCount own l := by
  rw [peerCount_eq_keys, peerCount_eq_keys]
  exact ((eraseRecord_sublist k l).map _).countP_le

/-- A peer record that leaves makes room for one. -/
theorem peerCount_eraseRecord_lt {own : Nat} {l : List Record} {r : Record} (hr : r ∈ l) (peer : r.key.origin ≠ own) :
    peerCount own (eraseRecord r.key l) < peerCount own l := by
  induction l with
  | nil => cases hr
  | cons x l ih =>
    simp only [peerCount, eraseRecord, List.filter_cons] at ih ⊢
    by_cases hx : x.key = r.key
    · have le := peerCount_eraseRecord_le own r.key l
      simp only [peerCount, eraseRecord] at le
      simp [hx, peer]
      simpa using le
    · have := ih (List.mem_of_ne_of_mem (fun e => hx (congrArg _ e.symm)) hr)
      by_cases ho : x.key.origin = own <;> simp_all

theorem Record.Holdable.refreshed {r : Record} (h : r.Holdable) (now : Nat) :
    ({ r with lastHeard := some now, freshness := .fresh } : Record).Holdable := h

theorem Record.Holdable.stale {r : Record} (h : r.Holdable) : ({ r with freshness := .stale } : Record).Holdable := h

/-- The keys of the table after its records of an origin have been marked STALE. -/
theorem markStale_keys (n : Nat) (l : List Record) :
    (l.map (fun r => if r.key.origin = n then { r with freshness := .stale } else r)).map (·.key) = l.map (·.key) := by
  rw [List.map_map]
  refine List.map_congr_left fun x _ => ?_
  by_cases h : x.key.origin = n <;> simp [h]

namespace SafeTables

variable {own : Nat} {te : TableEngine} (h : SafeTables own te)
include h

theorem congr {te' : TableEngine} (cft : te'.cft = te.cft) (groups : te'.groups = te.groups) : SafeTables own te' :=
  ⟨cft ▸ h.order, cft ▸ h.holdable, cft ▸ h.peers, groups ▸ h.groupOrder, groups ▸ h.groupRoom⟩

theorem insert {r : Record} (absent : findRecord te.cft r.key = none) (hr : r.Holdable)
    (room : r.key.origin = own ∨ peerCount own te.cft < Config.peerPlaces) :
    SafeTables own { te with cft := insertRecord r te.cft } := by
  refine ⟨insertRecord_order absent h.order, fun x hx => ?_, ?_, h.groupOrder, h.groupRoom⟩
  · obtain rfl | hx := List.mem_cons.1 ((insertRecord_perm r te.cft).mem_iff.1 hx)
    · exact hr
    · exact h.holdable x hx
  · have := h.peers
    rw [peerCount_insertRecord]
    split <;> omega

theorem sameKeys {l : List Record} (keys : l.map (·.key) = te.cft.map (·.key)) (hl : ∀ r ∈ l, r.Holdable) :
    SafeTables own { te with cft := l } := by
  refine ⟨keys ▸ h.order, hl, ?_, h.groupOrder, h.groupRoom⟩
  have := h.peers
  rwa [peerCount_eq_keys, keys, ← peerCount_eq_keys]

theorem put {r : Record} (hr : r.Holdable) : SafeTables own { te with cft := putRecord r te.cft } :=
  h.sameKeys (putRecord_keys r te.cft) fun x hx => (mem_putRecord hx).elim (fun e => e ▸ hr) (h.holdable x)

theorem erase (k : Key) : SafeTables own { te with cft := eraseRecord k te.cft } :=
  ⟨h.order.sublist ((eraseRecord_sublist k te.cft).map _), fun x hx => h.holdable x (List.mem_of_mem_filter hx),
    (peerCount_eraseRecord_le own k te.cft).trans h.peers, h.groupOrder, h.groupRoom⟩

theorem markStale (n : Nat) : SafeTables own { te with
    cft := te.cft.map (fun r => if r.key.origin = n then { r with freshness := .stale } else r) } := by
  refine h.sameKeys (markStale_keys n te.cft) fun x hx => ?_
  obtain ⟨y, hy, rfl⟩ := List.mem_map.1 hx
  split
  · exact (h.holdable y hy).stale
  · exact h.holdable y hy

theorem eraseGroup (g : Nat) : SafeTables own { te with groups := eraseGroup g te.groups } :=
  ⟨h.order, h.holdable, h.peers, h.groupOrder.sublist (List.filter_sublist.map _),
    (List.length_filter_le _ _).trans h.groupRoom⟩

end SafeTables

theorem Work.delete_groups (w : Work) (k : Key) (c : DeleteCause) : (w.delete k c).te.groups = w.te.groups := by
  unfold Work.delete
  split <;> rfl

/-- The work of a claim keeps the tables in order. -/
theorem Worked.safe {u : State} {w : Work} (hu : SafeTables u.own u.table) (h : Worked u w) : SafeTables u.own w.te := by
  induction h with
  | start => exact hu
  | note _ cft groups _ _ _ ih => exact ih.congr cft groups
  | place _ r absent hr room ih => exact ih.insert absent hr room
  | replace _ old r _ hr ih => exact ih.put hr
  | refresh _ now r held ih => exact ih.put ((ih.holdable r (findRecord_some held).2).refreshed now)
  | delete _ k c ih => exact (ih.erase k).congr (Work.delete_cft ..) (Work.delete_groups ..)
  | markStale _ n ih => exact ih.markStale n
  | graceEnd _ g d _ ih => exact ih.eraseGroup g

end Sys2Proof.Machine

/-!
PROOFS. Each claim of the Table Engine is the close of the work that its tables allow.
-/
namespace Sys2Proof.Machine

/-! ### Eviction (R21) -/

theorem leastRecord_mem {before : Record → Record → Bool} {l : List Record} {r : Record}
    (h : leastRecord before l = some r) : r ∈ l := by
  induction l generalizing r with
  | nil => cases h
  | cons x l ih =>
    unfold leastRecord at h
    cases hl : leastRecord before l with
    | none =>
      rw [hl] at h
      cases h
      exact List.mem_cons_self
    | some m =>
      rw [hl] at h
      dsimp only at h
      split at h
      · cases h
        exact List.mem_cons_of_mem _ (ih hl)
      · cases h
        exact List.mem_cons_self

theorem of_orElse_eq_some {α : Type} {a : Option α} {b : Unit → Option α} {x : α} (h : a.orElse b = some x) :
    a = some x ∨ b () = some x := by
  cases a with
  | none => exact .inr h
  | some y => exact .inl h

/-- A record that is evicted is a peer record of the table. -/
theorem evictionChoice_peer {own severity : Nat} {te : TableEngine} {v : Record}
    (h : evictionChoice own te severity = some v) : v ∈ te.cft ∧ v.key.origin ≠ own := by
  have inPeers {p : Record → Bool} {before : Record → Record → Bool}
      (h : leastRecord before ((te.cft.filter (fun r => decide (r.key.origin ≠ own))).filter p) = some v) :
      v ∈ te.cft ∧ v.key.origin ≠ own := by
    simpa using List.mem_of_mem_filter (leastRecord_mem h)
  unfold evictionChoice at h
  obtain h | h := of_orElse_eq_some h
  · exact inPeers h
  obtain h | h := of_orElse_eq_some h
  · exact inPeers h
  obtain h | h := of_orElse_eq_some h
  all_goals exact inPeers h

/-! ### The work of the announcements -/

namespace Worked

variable {u : State} {w : Work} (hu : SafeTables u.own u.table) (h : Worked u w)
include hu h

theorem insertPeer (r : Record) (absent : findRecord w.te.cft r.key = none) (hr : r.Holdable) :
    Worked u (w.insertPeer u.own r) := by
  unfold Work.insertPeer
  split
  next room => exact h.place r absent hr (.inr room)
  next =>
    split
    next v hv =>
      obtain ⟨mem, peer⟩ := evictionChoice_peer hv
      have cft := Work.delete_cft w v.key .eviction
      have counted : Worked u { w.delete v.key .eviction with te := { (w.delete v.key .eviction).te with
          evictions := (w.delete v.key .eviction).te.evictions + 1 } } :=
        (h.delete v.key .eviction).note rfl rfl rfl rfl rfl
      refine counted.place r ?_ hr (.inr ?_)
      · dsimp only
        rw [cft, findRecord_erase, absent, ite_self]
      · dsimp only
        rw [cft]
        exact (peerCount_eraseRecord_lt mem peer).trans_le (h.safe hu).peers
    next => exact h.note rfl rfl rfl rfl rfl

theorem apply {s : State} (hs : s.own = u.own) (n : Nat) {a : Announcement} (ha : a.Sound) :
    Worked u (w.apply s n a) := by
  unfold Work.apply
  split
  next absent =>
    split
    · rw [hs]
      exact h.insertPeer hu _ absent (ha.inserted s n)
    · exact h.note rfl rfl rfl rfl rfl
  next r held =>
    obtain ⟨key, mem⟩ := findRecord_some held
    have held' : findRecord w.te.cft r.key = some r := by rw [key]; exact held
    split
    · have hr := ha.replaced s ((h.safe hu).holdable r mem)
      refine (h.replace r (a.replaced s r) held' hr).refresh _ _ (findRecord_put _ _ ?_)
      rw [Announcement.replaced_key, held']
      rfl
    · exact h.refresh _ r held'
    · exact h.note rfl rfl rfl rfl rfl

omit hu in
theorem tagCheck (roster : RosterUnit) (n : Nat) (tag : Word16) : Worked u (tagCheck roster n tag w) := by
  unfold Machine.tagCheck
  split
  · split
    · exact h
    · exact h.deleteAll _ _
  · exact h

theorem rollApply {s : State} (hs : s.own = u.own) (n : Nat) {f : RollBody} (hf : ∀ a, f.part = some a → a.Sound) :
    Worked u (rollApply s n f w) := by
  have swept := h.deleteAll (sweptKeys w.te.cft n f.openSet) .sweep
  unfold Machine.rollApply
  dsimp only
  split
  next a ha => exact swept.apply hu hs n (hf a ha)
  next => exact swept.delete _ _

end Worked

/-! ### The claims -/

/-- What a claim has changed before its close: what it took from its queue, the timers and the roster. -/
structure ClaimFrame (s u : State) : Prop where
  eq : u = { s with
    origin := { s.origin with ownUpdates := u.origin.ownUpdates, acksIn := u.origin.acksIn }
    table := { s.table with timers := u.table.timers }
    roster := u.roster
    rx := { s.rx with queue := u.rx.queue, badFrames := u.rx.badFrames } }
  updates : u.origin.ownUpdates.Sublist s.origin.ownUpdates
  frames : u.rx.queue.Sublist s.rx.queue

theorem ClaimFrame.own {s u : State} (h : ClaimFrame s u) : u.own = s.own := by
  rw [State.own, h.eq]
  rfl

theorem ClaimFrame.tables {s u : State} (h : ClaimFrame s u) (hs : SafeTables s.own s.table) :
    SafeTables u.own u.table := by
  rw [h.own]
  exact hs.congr (by rw [h.eq]) (by rw [h.eq])

/-- What the roster has become by the time a claim closes. -/
inductive RosterMove (s : State) : RosterUnit → Prop
  | same : RosterMove s s.roster
  | taken : RosterMove s { s.roster with events := s.roster.events.drop 1 }
  | tagged (n : Nat) (tag : Word16) : RosterMove s (s.roster.storeTag n tag)
  | windowed (n window : Nat) (tag : Word16) :
    RosterMove s ((s.roster.storeTag n tag).storeWindow s.window s.nowSec n window)

/-- What a claim makes of the state: nothing, or the close of its work; the build of a page writes the port besides. -/
inductive ClaimMove (s : State) : State → Prop
  | none : ClaimMove s s
  | closed (hrun : s.running = true) (u : State) (w : Work) (extra : List Notice) (frame : ClaimFrame s u)
    (roster : RosterMove s u.roster) (work : OriginSafe s → SafeTables s.own s.table → Worked u w) :
    ClaimMove s (u.closeClaim w extra)
  | page (hrun : s.running = true) (hd : s.port.dump.isBuilding = true) (items : PageItems) (t : DispatcherPort)
    (ht : t = { (s.closeClaim (Work.begin s.table) []).port with
      service := .free, dump := t.dump, reports := t.reports })
    (hdump : t.dump.isBuilding = false)
    (reports : t.reports.length ≤ (s.closeClaim (Work.begin s.table) []).port.reports.length + 2) :
    ClaimMove s { s.closeClaim (Work.begin s.table) [] with port := t }

theorem State.running_of_nextClaim {s : State} {c : Claim} (h : s.nextClaim = some c) : s.running = true := by
  unfold State.nextClaim at h
  split at h
  next hopen =>
    simp only [State.claimsOpen, Bool.and_eq_true] at hopen
    exact hopen.1
  next => cases h

theorem State.nextClaim_ownUpdate {s : State} {k : Nat} (h : s.nextClaim = some (.ownUpdate k)) :
    k ∈ s.origin.ownUpdates := by
  unfold State.nextClaim at h
  split at h
  · split at h
    all_goals cases h
    next hu => rw [hu]; exact List.mem_cons_self
  · cases h

theorem State.nextClaim_page {s : State} {src : DumpSource} {cur : Cursor} (h : s.nextClaim = some (.page src cur)) :
    s.port.dump = .building src cur := by
  unfold State.nextClaim at h
  split at h
  · split at h
    all_goals cases h
    assumption
  · cases h

/-- An own record as the table holds it (R15). -/
theorem OwnSlot.sound.holdable {sl : OwnSlot} (h : sl.sound) {r : Record} (hr : sl.record = some r) {own k : Nat}
    (hk : k ≤ 64) : ({ r with key := ⟨own, k⟩ } : Record).Holdable := by
  obtain ⟨-, -, records⟩ := h
  obtain ⟨-, -, -, sound⟩ := records r hr
  exact ⟨hk, sound⟩

theorem OriginUnit.slot_mem_or_start (o : OriginUnit) (k : Nat) : o.slot k ∈ o.slots ∨ o.slot k = .start := by
  by_cases h : k < o.slots.length
  · left
    rw [OriginUnit.slot, List.getD_eq_getElem _ _ h]
    exact List.getElem_mem h
  · exact .inr (OriginUnit.slot_of_le (Nat.not_lt.1 h))

theorem OriginSafe.slot_sound {s : State} (h : OriginSafe s) (k : Nat) : (s.origin.slot k).sound := by
  obtain ⟨-, sound, -⟩ := h
  obtain mem | start := s.origin.slot_mem_or_start k
  · exact sound _ mem
  · rw [start]
    exact OwnSlot.start_sound

section Claims

variable (s : State)

theorem ownUpdate_move : ClaimMove s (ownUpdate s) := by
  unfold ownUpdate
  split
  next k hk =>
    generalize hu : ({ s with origin := { s.origin with ownUpdates := s.origin.ownUpdates.drop 1 } } : State) = u
    have frame : ClaimFrame s u := hu ▸ ⟨rfl, List.drop_sublist 1 _, .refl _⟩
    have table : u.table = s.table := by rw [← hu]
    have roster : RosterMove s u.roster := hu ▸ .same
    have run := State.running_of_nextClaim hk
    have record (ho : OriginSafe s) {r : Record} (hr : (s.origin.slot k).record = some r) :
        ({ r with key := ⟨s.own, k⟩ } : Record).Holdable := by
      obtain ⟨-, -, -, -, updates, -⟩ := id ho
      exact (ho.slot_sound k).holdable hr (updates k (State.nextClaim_ownUpdate hk))
    dsimp only
    rw [← table]
    split
    next r hr absent =>
      exact .closed run u _ [] frame roster fun ho _ =>
        Worked.start.place _ absent (record ho hr) (.inl frame.own.symm)
    next r old hr held =>
      exact .closed run u _ [] frame roster fun ho _ => Worked.start.replace _ _ held (record ho hr)
    next => exact .closed run u _ [] frame roster fun _ _ => Worked.start.delete _ _
  next => exact .none

theorem lingerExpiry_move : ClaimMove s (lingerExpiry s) := by
  unfold lingerExpiry
  split
  next d k hk =>
    have frame : ClaimFrame s { s with table := { s.table with timers := s.table.timers.drop 1 } } :=
      ⟨rfl, .refl _, .refl _⟩
    dsimp only
    split
    · refine .closed (State.running_of_nextClaim hk) _ _ [] frame .same fun _ _ => ?_
      split
      · exact Worked.start.delete _ _
      · exact .start
    · exact .closed (State.running_of_nextClaim hk) _ _ [] frame .same fun _ _ => .start
  next => exact .none

theorem graceExpiry_move : ClaimMove s (graceExpiry s) := by
  unfold graceExpiry
  split
  next d g hg =>
    have frame : ClaimFrame s { s with table := { s.table with timers := s.table.timers.drop 1 } } :=
      ⟨rfl, .refl _, .refl _⟩
    have run := State.running_of_nextClaim hg
    dsimp only
    split
    next group e he =>
      split
      · exact .closed run _ _ [] frame .same fun _ _ => Worked.start.graceEnd g e ⟨_, he, rfl⟩
      · exact .closed run _ _ [] frame .same fun _ _ => .start
    next => exact .closed run _ _ [] frame .same fun _ _ => .start
  next => exact .none

theorem rosterEventSilent_move : ClaimMove s (rosterEventSilent s) := by
  unfold rosterEventSilent
  split
  next n hn =>
    exact .closed (State.running_of_nextClaim hn) _ _ _ ⟨rfl, .refl _, .refl _⟩ .taken fun _ _ =>
      Worked.start.markStale n
  next => exact .none

theorem rosterEventPresent_move : ClaimMove s (rosterEventPresent s) := by
  unfold rosterEventPresent
  split
  next n hn =>
    exact .closed (State.running_of_nextClaim hn) _ _ _ ⟨rfl, .refl _, .refl _⟩ .taken fun _ _ => .start
  next => exact .none

variable {s} in
theorem State.badContent_move (hrun : s.running = true) : ClaimMove s s.takeFrame.badContent :=
  .closed hrun _ _ [] ⟨rfl, .refl _, List.drop_sublist 1 _⟩ .same fun _ _ => .start

theorem recordFrame_move : ClaimMove s (recordFrame s) := by
  unfold recordFrame
  split
  next n b hn =>
    have run := State.running_of_nextClaim hn
    dsimp only
    split
    next => exact State.badContent_move run
    next f hf =>
      have frame : ClaimFrame s { s.takeFrame with roster := s.roster.storeTag n f.tag } :=
        ⟨rfl, .refl _, List.drop_sublist 1 _⟩
      exact .closed run _ _ [] frame (.tagged n f.tag) fun _ hs =>
        (Worked.start.tagCheck s.roster n f.tag).apply (frame.tables hs) rfl n (readRecord_sound hf)
  next => exact .none

theorem rollFrame_move : ClaimMove s (rollFrame s) := by
  unfold rollFrame
  split
  next n b hn =>
    have run := State.running_of_nextClaim hn
    dsimp only
    split
    next => exact State.badContent_move run
    next f hf =>
      have frame : ClaimFrame s { s.takeFrame with
          roster := (s.roster.storeTag n f.tag).storeWindow s.window s.nowSec n f.window } :=
        ⟨rfl, .refl _, List.drop_sublist 1 _⟩
      refine .closed run _ _ [] frame (.windowed n f.window f.tag) fun _ hs => ?_
      refine Worked.rollApply (frame.tables hs) ?_ rfl n fun a ha => readRoll_sound hf ha
      refine (Worked.start.tagCheck s.roster n f.tag).note ?_ ?_ ?_ rfl rfl
      all_goals
        dsimp only
        split <;> rfl
  next => exact .none

theorem acknowledgeFrame_move : ClaimMove s (acknowledgeFrame s) := by
  unfold acknowledgeFrame
  split
  next n b hn =>
    have run := State.running_of_nextClaim hn
    dsimp only
    split
    next => exact State.badContent_move run
    next a ha =>
      refine .closed run _ _ [] ⟨?_, ?_, List.drop_sublist 1 _⟩ .same fun _ _ => .start
      all_goals dsimp only
      · split <;> rfl
      · split <;> exact .refl _
  next => exact .none

theorem pageBuild_move : ClaimMove s (pageBuild s) := by
  unfold pageBuild
  split
  next src cur hc =>
    have building : s.port.dump.isBuilding = true := by rw [State.nextClaim_page hc]
    refine .page (State.running_of_nextClaim hc) building (s.pageItems src cur) _ ?_ ?_ ?_
    all_goals dsimp only
    · split <;> rfl
    · split <;> rfl
    · split <;> simp [DispatcherPort.post]
  next => exact .none

/-- Every claim of the Table Engine is the close of its work. -/
theorem claim_move {i : Instr} (hb : commandBlock i = .claims) : ClaimMove s (effect i s) := by
  cases i <;> cases hb
  case ownUpdate => exact ownUpdate_move s
  case lingerExpiry => exact lingerExpiry_move s
  case graceExpiry => exact graceExpiry_move s
  case rosterEventSilent => exact rosterEventSilent_move s
  case rosterEventPresent => exact rosterEventPresent_move s
  case recordFrame => exact recordFrame_move s
  case rollFrame => exact rollFrame_move s
  case acknowledgeFrame => exact acknowledgeFrame_move s
  case pageBuild => exact pageBuild_move s

end Claims

end Sys2Proof.Machine

/-!
PROOFS. The group table at the close of a claim (R35 to R39, R48, R49), by what a lookup finds.
-/
namespace Sys2Proof.Machine

/-! ### Supervising records (R34, R37) -/

theorem Record.supervises_iff (r : Record) (g : Nat) :
    r.supervises g = true ↔ r.kind = .supply ∧ r.group = g ∧ r.state = .opened := by
  simp [Record.supervises, and_assoc]

theorem lowestSupervisor_eq_none (cft : List Record) (g : Nat) :
    lowestSupervisor cft g = none ↔ ∀ r ∈ cft, ¬r.supervises g = true := by
  simp [lowestSupervisor, List.min?_eq_none_iff]

theorem lowestSupervisor_eq_some (cft : List Record) (g m : Nat) : lowestSupervisor cft g = some m ↔
    (∃ r ∈ cft, r.supervises g = true ∧ r.key.origin = m) ∧
      ∀ r ∈ cft, r.supervises g = true → m ≤ r.key.origin := by
  rw [lowestSupervisor, List.min?_eq_some_iff]
  simp only [List.mem_map, List.mem_filter, and_assoc, forall_exists_index, and_imp]
  refine and_congr_right fun _ => ⟨fun h r hr hs => h _ r hr hs rfl, ?_⟩
  rintro h _ r hr hs rfl
  exact h r hr hs

theorem mem_supervisedGroups (cft : List Record) (g : Nat) :
    g ∈ supervisedGroups cft ↔ lowestSupervisor cft g ≠ none := by
  have supervising : lowestSupervisor cft g ≠ none ↔ ∃ r ∈ cft, r.supervises g = true := by
    simp [lowestSupervisor_eq_none]
  rw [supervising, supervisedGroups, mem_mergeNat]
  simp only [List.mem_map, List.mem_filter, Bool.and_eq_true, decide_eq_true_eq, Record.supervises_iff,
    List.not_mem_nil, or_false]
  constructor
  · rintro ⟨r, ⟨hr, hk, ho⟩, hg⟩
    exact ⟨r, hr, hk, hg, ho⟩
  · rintro ⟨r, hr, hk, hg, ho⟩
    exact ⟨r, ⟨hr, hk, ho⟩, hg⟩

theorem supervisedGroups_ascending (cft : List Record) : (supervisedGroups cft).Pairwise (· < ·) :=
  mergeNat_ascending _ _ .nil

/-! ### Lookups in the group table (R32) -/

theorem findEntry_some {groups : List GroupEntry} {g : Nat} {e : GroupEntry} (h : findEntry groups g = some e) :
    e.group = g ∧ e ∈ groups :=
  ⟨by simpa using List.find?_some h, List.mem_of_find?_eq_some h⟩

theorem findEntry_eq_none {groups : List GroupEntry} {g : Nat} :
    findEntry groups g = none ↔ ∀ e ∈ groups, e.group ≠ g := by
  simp [findEntry, List.find?_eq_none]

theorem hasEntry_eq (groups : List GroupEntry) (g : Nat) : hasEntry groups g = (findEntry groups g).isSome := by
  rw [hasEntry, findEntry, List.isSome_find?]

theorem findEntry_insertGroup {e : GroupEntry} {groups : List GroupEntry} (absent : findEntry groups e.group = none)
    (h : Nat) : findEntry (insertGroup e groups) h = if h = e.group then some e else findEntry groups h := by
  induction groups with
  | nil => by_cases hg : h = e.group <;> simp [insertGroup, findEntry, hg, eq_comm]
  | cons x l ih =>
    rw [findEntry_eq_none] at absent
    have hx : x.group ≠ e.group := absent x List.mem_cons_self
    have hl := ih (findEntry_eq_none.2 fun y hy => absent y (List.mem_cons_of_mem _ hy))
    unfold insertGroup
    split
    · by_cases hg : h = e.group <;> simp [findEntry, hg, eq_comm]
    · by_cases hxh : x.group = h
      · subst hxh
        simp [findEntry, hx]
      · simpa [findEntry, hxh] using hl

theorem findEntry_setGroup (g : Nat) (st : GroupState) (groups : List GroupEntry) (h : Nat) :
    findEntry (setGroup g st groups) h =
      if h = g then (findEntry groups h).map (fun _ => ⟨g, st⟩) else findEntry groups h := by
  have sameTest (e : GroupEntry) :
      decide ((if e.group = g then { e with state := st } else e).group = h) = decide (e.group = h) := by
    by_cases he : e.group = g <;> simp [he]
  have looked : findEntry (setGroup g st groups) h =
      (findEntry groups h).map (fun e => if e.group = g then { e with state := st } else e) := by
    simp only [findEntry, setGroup, List.find?_map, Function.comp_def, sameTest]
  rw [looked]
  cases hf : findEntry groups h with
  | none => simp
  | some e =>
    obtain ⟨rfl, -⟩ := findEntry_some hf
    by_cases he : e.group = g <;> simp [he]

theorem findEntry_eraseGroup (g : Nat) (groups : List GroupEntry) (h : Nat) :
    findEntry (eraseGroup g groups) h = if h = g then none else findEntry groups h := by
  induction groups with
  | nil => simp [findEntry, eraseGroup]
  | cons x l ih =>
    unfold findEntry eraseGroup at *
    by_cases hx : x.group = g
    · rw [List.filter_cons_of_neg (by simp [hx]), ih, List.find?_cons]
      by_cases hh : h = g
      · simp [hh]
      · simp [hh, hx, Ne.symm hh]
    · rw [List.filter_cons_of_pos (by simp [hx]), List.find?_cons, List.find?_cons, ih]
      by_cases hh : h = g
      · subst hh; simp [hx]
      · by_cases hxh : x.group = h <;> simp [hxh, hh]

/-! ### The order of the group table (R32) -/

/-- The group table is in ascending group number. -/
def GroupsAscend (groups : List GroupEntry) : Prop := (groups.map (·.group)).Pairwise (· < ·)

theorem insertGroup_perm (e : GroupEntry) (groups : List GroupEntry) : (insertGroup e groups).Perm (e :: groups) := by
  induction groups with
  | nil => exact .refl _
  | cons x l ih =>
    unfold insertGroup
    split
    · exact .refl _
    · exact (ih.cons x).trans (.swap e x l)

theorem insertGroup_length (e : GroupEntry) (groups : List GroupEntry) :
    (insertGroup e groups).length = groups.length + 1 :=
  (insertGroup_perm e groups).length_eq

theorem GroupsAscend.insert {e : GroupEntry} {groups : List GroupEntry} (absent : findEntry groups e.group = none)
    (h : GroupsAscend groups) : GroupsAscend (insertGroup e groups) := by
  induction groups with
  | nil => simp [GroupsAscend, insertGroup]
  | cons x l ih =>
    rw [findEntry_eq_none] at absent
    obtain ⟨first, rest⟩ := List.pairwise_cons.1 h
    have hx : x.group ≠ e.group := absent x List.mem_cons_self
    have inserted := ih (findEntry_eq_none.2 fun y hy => absent y (List.mem_cons_of_mem _ hy)) rest
    unfold GroupsAscend insertGroup
    split
    next lt =>
      refine List.pairwise_cons.2 ⟨fun g hg => ?_, h⟩
      obtain rfl | hg := List.mem_cons.1 hg
      · exact lt
      · exact lt.trans (first g hg)
    next lt =>
      refine List.pairwise_cons.2 ⟨fun g hg => ?_, inserted⟩
      have hg' : g = e.group ∨ g ∈ l.map (·.group) := by
        simpa using (((insertGroup_perm e l).map (·.group)).mem_iff (a := g)).1 hg
      obtain rfl | hg' := hg'
      · exact lt_of_le_of_ne (Nat.not_lt.1 lt) hx
      · exact first g hg'

theorem setGroup_groups (g : Nat) (st : GroupState) (groups : List GroupEntry) :
    (setGroup g st groups).map (·.group) = groups.map (·.group) := by
  rw [setGroup, List.map_map]
  refine List.map_congr_left fun x _ => ?_
  by_cases h : x.group = g <;> simp [h]

theorem GroupsAscend.set {groups : List GroupEntry} (h : GroupsAscend groups) (g : Nat) (st : GroupState) :
    GroupsAscend (setGroup g st groups) := by
  rwa [GroupsAscend, setGroup_groups]

theorem setGroup_length (g : Nat) (st : GroupState) (groups : List GroupEntry) :
    (setGroup g st groups).length = groups.length := List.length_map _

theorem GroupsAscend.findEntry_mem {groups : List GroupEntry} (h : GroupsAscend groups) {e : GroupEntry}
    (he : e ∈ groups) : findEntry groups e.group = some e := by
  induction groups with
  | nil => cases he
  | cons x l ih =>
    obtain ⟨first, rest⟩ := List.pairwise_cons.1 h
    obtain rfl | he := List.mem_cons.1 he
    · simp [findEntry]
    · have later : x.group ≠ e.group := (first e.group (List.mem_map_of_mem he)).ne
      rw [findEntry, List.find?_cons_of_neg (by simpa using later)]
      exact ih rest he

/-! ### One group of a close (R35 to R39, R48) -/

/-- The entry that a close's effect leaves for a group, from the entry it had and its lowest supervisor (the table of
R35). -/
def entryAfter (deadline g : Nat) (room : Bool) : Option GroupEntry → Option Nat → Option GroupEntry
  | none, none => none
  | none, some m => if room then some ⟨g, .down m⟩ else none
  | some _, some m => some ⟨g, .down m⟩
  | some ⟨h, .down _⟩, none => some ⟨h, .returning deadline⟩
  | some ⟨h, .returning d⟩, none => some ⟨h, .returning d⟩

/-- The group table has a place (R32). -/
def GroupWork.hasRoom (c : GroupWork) : Bool := decide (c.te.groups.length < Config.groupPlaces)

theorem GroupWork.hasRoom_eq_true {c : GroupWork} (h : c.te.groups.length < Config.groupPlaces) : c.hasRoom = true :=
  decide_eq_true h

theorem GroupWork.hasRoom_eq_false {c : GroupWork} : c.hasRoom = false ↔ Config.groupPlaces ≤ c.te.groups.length := by
  rw [GroupWork.hasRoom, decide_eq_false_iff_not, Nat.not_lt]

theorem GroupWork.findEntry_create {c : GroupWork} {g m : Nat} (absent : findEntry c.te.groups g = none) (h : Nat) :
    findEntry (c.create g m).te.groups h =
      if h = g then (if c.hasRoom then some ⟨g, .down m⟩ else none) else findEntry c.te.groups h := by
  unfold GroupWork.create
  split
  next room =>
    rw [GroupWork.hasRoom_eq_true room, if_pos rfl]
    exact findEntry_insertGroup (e := ⟨g, .down m⟩) absent h
  next full =>
    rw [GroupWork.hasRoom_eq_false.2 (Nat.not_lt.1 full)]
    by_cases hg : h = g <;> simp [hg, absent]

theorem findEntry_groupEffect (s : State) (c : GroupWork) (g h : Nat) :
    findEntry (groupEffect s c g).te.groups h =
      if h = g then
        entryAfter (s.nowSec + s.returnGrace) g c.hasRoom (findEntry c.te.groups g) (lowestSupervisor c.te.cft g)
      else findEntry c.te.groups h := by
  unfold groupEffect
  split
  next hf hl => by_cases hg : h = g <;> simp [hg, hf, hl, entryAfter]
  next m hf hl =>
    rw [GroupWork.findEntry_create hf, hf, hl]
    simp only [entryAfter]
  next e m hf hl =>
    by_cases hg : h = g <;> simp [findEntry_setGroup, hg, hf, hl, entryAfter]
  next e hf hl =>
    obtain ⟨rfl, -⟩ := findEntry_some hf
    obtain ⟨group, st⟩ := e
    cases st with
    | down m => by_cases hg : h = group <;> simp [findEntry_setGroup, hg, hf, hl, entryAfter]
    | returning d => by_cases hg : h = group <;> simp_all [entryAfter]

/-- What a group's effect does besides: it creates an entry where there is room, or finds the group table full. -/
theorem groupEffect_rest (s : State) (c : GroupWork) (g : Nat) :
    (groupEffect s c g).te = { c.te with
      groups := (groupEffect s c g).te.groups, groupTableFull := (groupEffect s c g).te.groupTableFull } ∧
    (groupEffect s c g).ended = c.ended := by
  unfold groupEffect GroupWork.create
  repeat' split
  all_goals exact ⟨rfl, rfl⟩

theorem groupEffect_length (s : State) (c : GroupWork) (g : Nat) :
    c.te.groups.length ≤ (groupEffect s c g).te.groups.length ∧
      (c.te.groups.length ≤ Config.groupPlaces → (groupEffect s c g).te.groups.length ≤ Config.groupPlaces) := by
  unfold groupEffect GroupWork.create
  repeat' split
  case isTrue room => exact ⟨by simp [insertGroup_length], fun _ => by rw [insertGroup_length]; exact room⟩
  all_goals simp [setGroup_length]

theorem groupEffect_ascend (s : State) {c : GroupWork} (h : GroupsAscend c.te.groups) (g : Nat) :
    GroupsAscend (groupEffect s c g).te.groups := by
  unfold groupEffect GroupWork.create
  split
  next => exact h
  next m hf _ =>
    split
    · exact h.insert hf
    · exact h
  next => exact h.set ..
  next =>
    split
    · exact h.set ..
    · exact h

/-- The effect on a group finds the table full exactly where the group goes without its entry (R48). -/
theorem groupEffect_full (s : State) (c : GroupWork) (g : Nat) :
    (groupEffect s c g).te.groupTableFull = (c.te.groupTableFull ||
      decide (findEntry c.te.groups g = none ∧ lowestSupervisor c.te.cft g ≠ none ∧ c.hasRoom = false)) := by
  unfold groupEffect GroupWork.create
  split
  next hf hl => simp [hl]
  next m hf hl =>
    split
    next room => simp [GroupWork.hasRoom_eq_true room]
    next full => simp [hf, hl, GroupWork.hasRoom_eq_false.2 (Nat.not_lt.1 full)]
  next e m hf hl => simp [hf]
  next e hf hl => split <;> simp [hf]

/-! ### The touched groups of a close, one after another -/

/-- What the effects of a close leave of a group that they touched (R35): a group goes without its entry only where the
table is full. -/
inductive Levelled (deadline g : Nat) (full : Prop) : Option GroupEntry → Option Nat → Option GroupEntry → Prop
  | away : Levelled deadline g full none none none
  | created (m : Nat) : Levelled deadline g full none (some m) (some ⟨g, .down m⟩)
  | lacking (m : Nat) (h : full) : Levelled deadline g full none (some m) none
  | supervised (e : GroupEntry) (m : Nat) : Levelled deadline g full (some e) (some m) (some ⟨g, .down m⟩)
  | returns (h m : Nat) : Levelled deadline g full (some ⟨h, .down m⟩) none (some ⟨h, .returning deadline⟩)
  | stays (h d : Nat) : Levelled deadline g full (some ⟨h, .returning d⟩) none (some ⟨h, .returning d⟩)

theorem levelled_entryAfter {deadline g : Nat} {full : Prop} {room : Bool} (hfull : room = false → full)
    (was : Option GroupEntry) (lowest : Option Nat) :
    Levelled deadline g full was lowest (entryAfter deadline g room was lowest) := by
  match was, lowest with
  | none, none => exact .away
  | none, some m =>
    cases room with
    | true => exact .created m
    | false => exact .lacking m (hfull rfl)
  | some e, some m => exact .supervised e m
  | some ⟨h, .down m⟩, none => exact .returns h m
  | some ⟨h, .returning d⟩, none => exact .stays h d

/-- A second effect on a group leaves it level. -/
theorem Levelled.again {deadline g : Nat} {room : Bool} {full : Prop} {was now : Option GroupEntry} {lowest : Option Nat}
    (h : Levelled deadline g full (entryAfter deadline g room was lowest) lowest now) :
    Levelled deadline g full was lowest now := by
  match was, lowest with
  | none, none => exact h
  | some ⟨_, .down _⟩, none => cases h; exact .returns ..
  | some ⟨_, .returning _⟩, none => exact h
  | some e, some m => cases h; exact .supervised e m
  | none, some m =>
    cases room with
    | true => cases h; exact .created m
    | false => exact h

theorem groupEffects_length (s : State) (l : List Nat) (c : GroupWork) :
    c.te.groups.length ≤ (l.foldl (groupEffect s) c).te.groups.length ∧
      (c.te.groups.length ≤ Config.groupPlaces →
        (l.foldl (groupEffect s) c).te.groups.length ≤ Config.groupPlaces) := by
  induction l generalizing c with
  | nil => exact ⟨le_rfl, id⟩
  | cons g l ih =>
    obtain ⟨more, bound⟩ := groupEffect_length s c g
    obtain ⟨more', bound'⟩ := ih (groupEffect s c g)
    exact ⟨more.trans more', fun h => bound' (bound h)⟩

theorem groupEffects_ascend (s : State) (l : List Nat) {c : GroupWork} (h : GroupsAscend c.te.groups) :
    GroupsAscend (l.foldl (groupEffect s) c).te.groups := by
  induction l generalizing c with
  | nil => exact h
  | cons g l ih => exact ih (groupEffect_ascend s h g)

/-- A group that a close does not touch keeps its entry. -/
theorem findEntry_groupEffects_of_not_mem (s : State) {l : List Nat} (c : GroupWork) {g : Nat} (hg : g ∉ l) :
    findEntry (l.foldl (groupEffect s) c).te.groups g = findEntry c.te.groups g := by
  induction l generalizing c with
  | nil => rfl
  | cons x l ih =>
    obtain ⟨hx, hl⟩ : g ≠ x ∧ g ∉ l := by simpa using hg
    rw [List.foldl_cons, ih _ hl, findEntry_groupEffect, if_neg hx]

/-- A group that a close touches is level with the table at its end. -/
theorem groupEffects_level (s : State) {l : List Nat} (c : GroupWork) {g : Nat} (hg : g ∈ l) :
    Levelled (s.nowSec + s.returnGrace) g (Config.groupPlaces ≤ (l.foldl (groupEffect s) c).te.groups.length)
      (findEntry c.te.groups g) (lowestSupervisor c.te.cft g)
      (findEntry (l.foldl (groupEffect s) c).te.groups g) := by
  induction l generalizing c with
  | nil => cases hg
  | cons x l ih =>
    rw [List.foldl_cons]
    by_cases hl : g ∈ l
    · have level := ih (groupEffect s c x) hl
      rw [groupEffect_cft, findEntry_groupEffect] at level
      by_cases hx : g = x
      · subst hx
        rw [if_pos rfl] at level
        exact level.again
      · rwa [if_neg hx] at level
    · obtain rfl : g = x := by simpa [hl] using hg
      rw [findEntry_groupEffects_of_not_mem s _ hl, findEntry_groupEffect, if_pos rfl]
      refine levelled_entryAfter (fun noRoom => ?_) _ _
      exact (GroupWork.hasRoom_eq_false.1 noRoom).trans ((groupEffect_length s c g).1.trans (groupEffects_length s l _).1)

/-- While GROUP-TABLE-FULL is not set, a touched group with a supervisor has its entry (R34, R48). -/
theorem groupEffects_full (s : State) {l : List Nat} {c : GroupWork}
    (h : (l.foldl (groupEffect s) c).te.groupTableFull = false) :
    c.te.groupTableFull = false ∧ ∀ g ∈ l, lowestSupervisor c.te.cft g ≠ none →
      findEntry (l.foldl (groupEffect s) c).te.groups g ≠ none := by
  induction l generalizing c with
  | nil => exact ⟨h, fun g hg => by cases hg⟩
  | cons x l ih =>
    rw [List.foldl_cons] at h ⊢
    obtain ⟨clear, rest⟩ := ih h
    rw [groupEffect_full, Bool.or_eq_false_iff] at clear
    obtain ⟨clear, roomy⟩ := clear
    refine ⟨clear, fun g hg lowest => ?_⟩
    by_cases hl : g ∈ l
    · exact rest g hl (by rwa [groupEffect_cft])
    · obtain rfl : g = x := by simpa [hl] using hg
      rw [findEntry_groupEffects_of_not_mem s _ hl, findEntry_groupEffect, if_pos rfl]
      obtain ⟨m, hm⟩ := Option.ne_none_iff_exists'.1 lowest
      rw [hm] at roomy ⊢
      cases hf : findEntry c.te.groups g with
      | some e => simp [entryAfter]
      | none =>
        have room : c.hasRoom = true := by simpa [hf] using roomy
        simp [entryAfter, room]

end Sys2Proof.Machine

/-!
PROOFS. The rescan of the lacking groups (R49) and the tables that the close of a claim leaves (R13).
-/
namespace Sys2Proof.Machine

/-! ### The rescan (R49) -/

theorem rescanGroup_of_room {c : GroupWork} {g m : Nat} (hl : lowestSupervisor c.te.cft g = some m)
    (room : c.te.groups.length < Config.groupPlaces) : rescanGroup c g = c.create g m := by
  simp only [rescanGroup, hl, if_pos room]

theorem rescanGroup_of_full {c : GroupWork} (full : Config.groupPlaces ≤ c.te.groups.length) (g : Nat) :
    rescanGroup c g = c := by
  unfold rescanGroup
  split
  · rw [if_neg (Nat.not_lt.2 full)]
  · rfl

theorem rescanGroup_of_none {c : GroupWork} {g : Nat} (hl : lowestSupervisor c.te.cft g = none) :
    rescanGroup c g = c := by
  simp only [rescanGroup, hl]

theorem findEntry_rescanGroup {c : GroupWork} {g : Nat} (absent : findEntry c.te.groups g = none) (h : Nat) :
    findEntry (rescanGroup c g).te.groups h =
      if h = g then entryAfter 0 g c.hasRoom none (lowestSupervisor c.te.cft g) else findEntry c.te.groups h := by
  cases hl : lowestSupervisor c.te.cft g with
  | none =>
    rw [rescanGroup_of_none hl]
    by_cases hg : h = g <;> simp [hg, absent, entryAfter]
  | some m =>
    by_cases room : c.te.groups.length < Config.groupPlaces
    · rw [rescanGroup_of_room hl room, GroupWork.findEntry_create absent]
      rfl
    · rw [rescanGroup_of_full (Nat.not_lt.1 room), GroupWork.hasRoom_eq_false.2 (Nat.not_lt.1 room)]
      by_cases hg : h = g <;> simp [hg, absent, entryAfter]

theorem rescanGroup_rest (c : GroupWork) (g : Nat) :
    (rescanGroup c g).te = { c.te with groups := (rescanGroup c g).te.groups } ∧
      (rescanGroup c g).ended = c.ended ∧ (rescanGroup c g).raised = c.raised := by
  cases hl : lowestSupervisor c.te.cft g with
  | none => rw [rescanGroup_of_none hl]; exact ⟨rfl, rfl, rfl⟩
  | some m =>
    by_cases room : c.te.groups.length < Config.groupPlaces
    · rw [rescanGroup_of_room hl room, GroupWork.create, if_pos room]
      exact ⟨rfl, rfl, rfl⟩
    · rw [rescanGroup_of_full (Nat.not_lt.1 room)]
      exact ⟨rfl, rfl, rfl⟩

theorem rescanGroup_length (c : GroupWork) (g : Nat) :
    c.te.groups.length ≤ (rescanGroup c g).te.groups.length ∧
      (c.te.groups.length ≤ Config.groupPlaces → (rescanGroup c g).te.groups.length ≤ Config.groupPlaces) := by
  unfold rescanGroup GroupWork.create
  split
  · split
    next room => exact ⟨by simp [insertGroup_length], fun _ => by rw [insertGroup_length]; exact room⟩
    next => exact ⟨le_rfl, id⟩
  · exact ⟨le_rfl, id⟩

theorem rescanGroup_ascend {c : GroupWork} {g : Nat} (absent : findEntry c.te.groups g = none)
    (h : GroupsAscend c.te.groups) : GroupsAscend (rescanGroup c g).te.groups := by
  unfold rescanGroup GroupWork.create
  split
  · split
    · exact h.insert absent
    · exact h
  · exact h

/-- The rescan over the groups of a list: what it leaves besides the entries it makes. -/
theorem rescans_rest (l : List Nat) (c : GroupWork) :
    (l.foldl rescanGroup c).te = { c.te with groups := (l.foldl rescanGroup c).te.groups } ∧
      (l.foldl rescanGroup c).ended = c.ended ∧ (l.foldl rescanGroup c).raised = c.raised := by
  induction l generalizing c with
  | nil => exact ⟨rfl, rfl, rfl⟩
  | cons g l ih =>
    obtain ⟨te, ended, raised⟩ := rescanGroup_rest c g
    obtain ⟨te', ended', raised'⟩ := ih (rescanGroup c g)
    exact ⟨te'.trans (by rw [te]; rfl), ended'.trans ended, raised'.trans raised⟩

theorem rescans_length (l : List Nat) (c : GroupWork) :
    c.te.groups.length ≤ (l.foldl rescanGroup c).te.groups.length ∧
      (c.te.groups.length ≤ Config.groupPlaces →
        (l.foldl rescanGroup c).te.groups.length ≤ Config.groupPlaces) := by
  induction l generalizing c with
  | nil => exact ⟨le_rfl, id⟩
  | cons g l ih =>
    obtain ⟨more, bound⟩ := rescanGroup_length c g
    obtain ⟨more', bound'⟩ := ih (rescanGroup c g)
    exact ⟨more.trans more', fun h => bound' (bound h)⟩

section Rescans

variable {l : List Nat} {c : GroupWork} (nodup : l.Nodup) (absent : ∀ g ∈ l, findEntry c.te.groups g = none)
include nodup absent

/-- The next group's turn leaves the later ones absent. -/
theorem rescans_absent {g : Nat} {rest : List Nat} (hl : l = g :: rest) :
    ∀ h ∈ rest, findEntry (rescanGroup c g).te.groups h = none := by
  subst hl
  intro h hh
  have hne : h ≠ g := fun e => (List.nodup_cons.1 nodup).1 (e ▸ hh)
  rw [findEntry_rescanGroup (absent g List.mem_cons_self), if_neg hne]
  exact absent h (List.mem_cons_of_mem _ hh)

theorem rescans_ascend (h : GroupsAscend c.te.groups) : GroupsAscend (l.foldl rescanGroup c).te.groups := by
  induction l generalizing c with
  | nil => exact h
  | cons g l ih =>
    exact ih (List.nodup_cons.1 nodup).2 (rescans_absent nodup absent rfl)
      (rescanGroup_ascend (absent g List.mem_cons_self) h)

theorem findEntry_rescans_of_not_mem {h : Nat} (hh : h ∉ l) :
    findEntry (l.foldl rescanGroup c).te.groups h = findEntry c.te.groups h := by
  induction l generalizing c with
  | nil => rfl
  | cons g l ih =>
    obtain ⟨hne, hl⟩ : h ≠ g ∧ h ∉ l := by simpa using hh
    rw [List.foldl_cons, ih (List.nodup_cons.1 nodup).2 (rescans_absent nodup absent rfl) hl,
      findEntry_rescanGroup (absent g List.mem_cons_self), if_neg hne]

/-- A lacking group is given its entry, under its lowest supervisor, or the table is full. -/
theorem rescans_level {g : Nat} (hg : g ∈ l) :
    Levelled 0 g (Config.groupPlaces ≤ (l.foldl rescanGroup c).te.groups.length) none (lowestSupervisor c.te.cft g)
      (findEntry (l.foldl rescanGroup c).te.groups g) := by
  induction l generalizing c with
  | nil => cases hg
  | cons x l ih =>
    have later := rescans_absent nodup absent rfl
    obtain ⟨fresh, nodup'⟩ := List.nodup_cons.1 nodup
    rw [List.foldl_cons]
    by_cases hx : g = x
    · subst hx
      rw [findEntry_rescans_of_not_mem nodup' later fresh, findEntry_rescanGroup (absent g List.mem_cons_self),
        if_pos rfl]
      refine levelled_entryAfter (fun noRoom => ?_) _ _
      exact (GroupWork.hasRoom_eq_false.1 noRoom).trans
        ((rescanGroup_length c g).1.trans (rescans_length l _).1)
    · have hl : g ∈ l := (List.mem_cons.1 hg).resolve_left hx
      have level := ih nodup' later hl
      rwa [rescanGroup_cft] at level

/-- The entries that the rescan makes are those of the first groups of the list: it goes on while there is room. -/
theorem rescans_first : l.Pairwise (fun g h => lowestSupervisor c.te.cft g ≠ none →
    findEntry (l.foldl rescanGroup c).te.groups h ≠ none →
      findEntry (l.foldl rescanGroup c).te.groups g ≠ none) := by
  induction l generalizing c with
  | nil => exact .nil
  | cons x l ih =>
    have later := rescans_absent nodup absent rfl
    obtain ⟨fresh, nodup'⟩ := List.nodup_cons.1 nodup
    refine List.pairwise_cons.2 ⟨fun h hh lowest made => ?_, ?_⟩
    · rw [List.foldl_cons] at made ⊢
      rw [findEntry_rescans_of_not_mem nodup' later fresh, findEntry_rescanGroup (absent x List.mem_cons_self),
        if_pos rfl]
      obtain ⟨m, hm⟩ := Option.ne_none_iff_exists'.1 lowest
      cases room : c.hasRoom with
      | true => simp [hm, entryAfter]
      | false =>
        have full := GroupWork.hasRoom_eq_false.1 room
        have none_made : ∀ k : List Nat, k.foldl rescanGroup c = c := by
          intro k
          induction k with
          | nil => rfl
          | cons y k ih => rw [List.foldl_cons, rescanGroup_of_full full, ih]
        rw [rescanGroup_of_full full, none_made] at made
        exact absurd (absent h (List.mem_cons_of_mem _ hh)) made
    · have rest := ih nodup' later
      simp only [rescanGroup_cft] at rest
      exact rest

end Rescans

theorem mem_lackingGroups (te : TableEngine) (g : Nat) :
    g ∈ lackingGroups te ↔ findEntry te.groups g = none ∧ lowestSupervisor te.cft g ≠ none := by
  rw [lackingGroups, List.mem_filter, mem_supervisedGroups, hasEntry_eq]
  simp [and_comm]

theorem lackingGroups_ascending (te : TableEngine) : (lackingGroups te).Pairwise (· < ·) :=
  (supervisedGroups_ascending te.cft).filter _

theorem lackingGroups_nodup (te : TableEngine) : (lackingGroups te).Nodup :=
  (lackingGroups_ascending te).imp Nat.ne_of_lt

theorem lackingGroups_absent (te : TableEngine) : ∀ g ∈ lackingGroups te, findEntry te.groups g = none :=
  fun g hg => ((mem_lackingGroups te g).1 hg).1

/-- The rescan is made (R49). -/
def GroupWork.rescans (c : GroupWork) : Bool := c.te.groupTableFull && !c.ended.isEmpty

theorem GroupWork.rescan_of_rescans {c : GroupWork} (h : c.rescans = true) :
    c.rescan = (lackingGroups c.te).foldl rescanGroup c := if_pos h

theorem GroupWork.rescan_of_not {c : GroupWork} (h : c.rescans = false) : c.rescan = c :=
  if_neg (by rw [Bool.eq_false_iff] at h; exact h)

theorem GroupWork.rescan_rest (c : GroupWork) :
    c.rescan.te = { c.te with groups := c.rescan.te.groups } ∧ c.rescan.ended = c.ended ∧ c.rescan.raised = c.raised := by
  cases h : c.rescans with
  | true => rw [GroupWork.rescan_of_rescans h]; exact rescans_rest ..
  | false => rw [GroupWork.rescan_of_not h]; exact ⟨rfl, rfl, rfl⟩

theorem GroupWork.rescan_full (c : GroupWork) : c.rescan.te.groupTableFull = c.te.groupTableFull := by
  rw [c.rescan_rest.1]

theorem GroupWork.rescan_length (c : GroupWork) : c.te.groups.length ≤ c.rescan.te.groups.length ∧
    (c.te.groups.length ≤ Config.groupPlaces → c.rescan.te.groups.length ≤ Config.groupPlaces) := by
  cases h : c.rescans with
  | true => rw [GroupWork.rescan_of_rescans h]; exact rescans_length ..
  | false => rw [GroupWork.rescan_of_not h]; exact ⟨le_rfl, id⟩

theorem GroupWork.rescan_ascend {c : GroupWork} (h : GroupsAscend c.te.groups) : GroupsAscend c.rescan.te.groups := by
  cases hr : c.rescans with
  | true =>
    rw [GroupWork.rescan_of_rescans hr]
    exact rescans_ascend (lackingGroups_nodup _) (lackingGroups_absent _) h
  | false => rwa [GroupWork.rescan_of_not hr]

/-- A group that is not lacking is left alone by the rescan. -/
theorem GroupWork.findEntry_rescan_of_not_lacking {c : GroupWork} {g : Nat} (h : g ∉ lackingGroups c.te) :
    findEntry c.rescan.te.groups g = findEntry c.te.groups g := by
  cases hr : c.rescans with
  | true =>
    rw [GroupWork.rescan_of_rescans hr]
    exact findEntry_rescans_of_not_mem (lackingGroups_nodup _) (lackingGroups_absent _) h
  | false => rw [GroupWork.rescan_of_not hr]

theorem GroupWork.findEntry_rescan_of_some {c : GroupWork} {g : Nat} {e : GroupEntry}
    (h : findEntry c.te.groups g = some e) : findEntry c.rescan.te.groups g = some e := by
  rw [GroupWork.findEntry_rescan_of_not_lacking, h]
  simp [mem_lackingGroups, h]

theorem GroupWork.findEntry_rescan_of_unsupervised {c : GroupWork} {g : Nat}
    (h : lowestSupervisor c.te.cft g = none) : findEntry c.rescan.te.groups g = findEntry c.te.groups g := by
  rw [GroupWork.findEntry_rescan_of_not_lacking]
  simp [mem_lackingGroups, h]

/-- A lacking group after the rescan: under its lowest supervisor, or still lacking. -/
theorem GroupWork.rescan_lacking {c : GroupWork} {g m : Nat} (h : findEntry c.te.groups g = none)
    (hl : lowestSupervisor c.te.cft g = some m) :
    findEntry c.rescan.te.groups g = some ⟨g, .down m⟩ ∨ findEntry c.rescan.te.groups g = none ∧
      (c.rescans = true → Config.groupPlaces ≤ c.rescan.te.groups.length) := by
  cases hr : c.rescans with
  | false => rw [GroupWork.rescan_of_not hr]; exact .inr ⟨h, nofun⟩
  | true =>
    rw [GroupWork.rescan_of_rescans hr]
    have lacking : g ∈ lackingGroups c.te := (mem_lackingGroups ..).2 ⟨h, by simp [hl]⟩
    have level := rescans_level (lackingGroups_nodup _) (lackingGroups_absent _) lacking
    rw [hl] at level
    generalize findEntry ((lackingGroups c.te).foldl rescanGroup c).te.groups g = found at level ⊢
    cases level with
    | created => exact .inl rfl
    | lacking _ full => exact .inr ⟨rfl, fun _ => full⟩

/-! ### The tables that a close leaves (R13) -/

/-- The groups of a claim as its close takes them up. -/
def Work.opened (w : Work) : GroupWork := { te := w.te, created := [], ended := w.ended, raised := false }

/-- The groups of a claim once its close has brought the touched ones level. -/
def Work.levelled (w : Work) (s : State) : GroupWork := w.touched.foldl (groupEffect s) w.opened

/-- The groups of a claim once its close has rescanned the lacking ones. -/
def Work.rescanned (w : Work) (s : State) : GroupWork := (w.levelled s).rescan

@[simp] theorem Work.levelled_cft (w : Work) (s : State) : (w.levelled s).te.cft = w.te.cft :=
  groupEffects_cft ..

@[simp] theorem Work.rescanned_cft (w : Work) (s : State) : (w.rescanned s).te.cft = w.te.cft :=
  (GroupWork.rescan_cft _).trans (w.levelled_cft s)

theorem Work.close_groups_eq (w : Work) (s : State) : (w.close s).te.groups = (w.rescanned s).te.groups := by
  unfold Work.close
  dsimp only
  rw [TableEngine.tableFullCheck_groups]
  split
  · rw [TableEngine.clashCheck_groups, TableEngine.groupFullCheck_groups]
    rfl
  · rw [TableEngine.groupFullCheck_groups]
    rfl

theorem TableEngine.clashCheck_full (te : TableEngine) (own : Nat) (l : List Nat) :
    (te.clashCheck own l).1.groupTableFull = te.groupTableFull := by
  unfold TableEngine.clashCheck
  dsimp only
  repeat' split
  all_goals rfl

theorem TableEngine.tableFullCheck_full (te : TableEngine) (own : Nat) :
    (te.tableFullCheck own).1.groupTableFull = te.groupTableFull := by
  unfold TableEngine.tableFullCheck
  split <;> rfl

theorem Work.close_full (w : Work) (s : State) :
    (w.close s).te.groupTableFull = (w.rescanned s).te.groupFullCheck.1.groupTableFull := by
  unfold Work.close
  dsimp only
  rw [TableEngine.tableFullCheck_full]
  split
  · rw [TableEngine.clashCheck_full]
    rfl
  · rfl

/-- A close keeps the tables in order. -/
theorem SafeTables.close {own : Nat} {w : Work} (h : SafeTables own w.te) (s : State) :
    SafeTables own (w.close s).te := by
  have groups := w.close_groups_eq s
  refine ⟨w.close_cft s ▸ h.order, w.close_cft s ▸ h.holdable, w.close_cft s ▸ h.peers, ?_, ?_⟩
  · rw [groups]
    exact GroupWork.rescan_ascend (groupEffects_ascend s _ (c := w.opened) h.groupOrder)
  · rw [groups]
    exact (GroupWork.rescan_length _).2 ((groupEffects_length s _ w.opened).2 h.groupRoom)

/-! ### Entries that match the records (R34, R37) -/

/-- Each entry stands under the lowest supervisor of its group, and a supervised group lacks its entry only while
GROUP-TABLE-FULL is set, by what a lookup finds. -/
structure EntriesMatch (te : TableEngine) : Prop where
  supervisor : ∀ g e, findEntry te.groups g = some e → e.state.supervisor = lowestSupervisor te.cft g
  covered : te.groupTableFull = false → ∀ g, lowestSupervisor te.cft g ≠ none → findEntry te.groups g ≠ none

theorem groupsMatch_iff {s : State} (h : GroupsAscend s.table.groups) : GroupsMatch s ↔ EntriesMatch s.table := by
  have lacking : lackingGroups s.table = [] ↔
      ∀ g, lowestSupervisor s.table.cft g ≠ none → findEntry s.table.groups g ≠ none := by
    simp only [List.eq_nil_iff_forall_not_mem, mem_lackingGroups, not_and']
  constructor
  · rintro ⟨supervisor, covered⟩
    refine ⟨fun g e he => ?_, fun full => lacking.1 (covered full)⟩
    obtain ⟨rfl, mem⟩ := findEntry_some he
    exact supervisor e mem
  · rintro ⟨supervisor, covered⟩
    exact ⟨fun e he => supervisor e.group e (h.findEntry_mem he), fun full => lacking.2 (covered full)⟩

/-- A touched group is under its lowest supervisor once it is level. -/
theorem Levelled.supervisor {deadline g : Nat} {full : Prop} {was now : Option GroupEntry} {lowest : Option Nat}
    (h : Levelled deadline g full was lowest now) {e : GroupEntry} (he : now = some e) :
    e.state.supervisor = lowest := by
  cases h <;> cases he <;> rfl

end Sys2Proof.Machine

/-!
PROOFS. A claim brings the group table level with the records: what its work leaves untouched, and what its close
makes of the groups that it touched.
-/
namespace Sys2Proof.Machine

/-! ### What the work leaves of the supervisors -/

/-- A table holds an OPEN supervising record of the group from an origin. -/
def supervisedBy (cft : List Record) (g m : Nat) : Prop := ∃ r ∈ cft, r.supervises g = true ∧ r.key.origin = m

/-- The lowest supervisor is a matter of the origins that supervise. -/
theorem lowestSupervisor_congr {l l' : List Record} {g : Nat} (h : ∀ m, supervisedBy l g m ↔ supervisedBy l' g m) :
    lowestSupervisor l g = lowestSupervisor l' g := by
  have bound (l : List Record) (m : Nat) : (∀ r ∈ l, r.supervises g = true → m ≤ r.key.origin) ↔
      ∀ n, supervisedBy l g n → m ≤ n :=
    ⟨fun h n ⟨r, hr, hs, e⟩ => e ▸ h r hr hs, fun h r hr hs => h _ ⟨r, hr, hs, rfl⟩⟩
  refine Option.ext fun m => ?_
  rw [lowestSupervisor_eq_some, lowestSupervisor_eq_some, bound, bound]
  simp only [h]
  exact and_congr_left fun _ => h m

theorem supervisedBy_insertRecord (r : Record) (l : List Record) (g m : Nat) :
    supervisedBy (insertRecord r l) g m ↔ r.supervises g = true ∧ r.key.origin = m ∨ supervisedBy l g m := by
  simp only [supervisedBy, (insertRecord_perm r l).mem_iff, List.mem_cons, exists_eq_or_imp]

/-- A record and its key determine each other in a table in order. -/
theorem SafeTables.findRecord_mem {own : Nat} {te : TableEngine} (h : SafeTables own te) {r : Record} (hr : r ∈ te.cft) :
    findRecord te.cft r.key = some r := by
  have order := h.order
  generalize te.cft = l at hr order
  induction l with
  | nil => cases hr
  | cons x l ih =>
    obtain ⟨first, rest⟩ := List.pairwise_cons.1 order
    obtain rfl | hr := List.mem_cons.1 hr
    · simp [findRecord]
    · have later : x.key ≠ r.key := by
        intro e
        have lt := (Key.lt_iff x.key r.key).1 (first r.key (List.mem_map_of_mem hr))
        rw [e] at lt
        omega
      rw [findRecord, List.find?_cons_of_neg (by simpa using later)]
      exact ih hr rest

/-- The supervisors of a table that holds a record: through that record, or through one of another key. -/
theorem SafeTables.supervisedBy_split {own : Nat} {te : TableEngine} (h : SafeTables own te) {old : Record}
    (held : findRecord te.cft old.key = some old) (g m : Nat) : supervisedBy te.cft g m ↔
      old.supervises g = true ∧ old.key.origin = m ∨ supervisedBy (eraseRecord old.key te.cft) g m := by
  simp only [supervisedBy, eraseRecord, List.mem_filter, decide_eq_true_eq]
  constructor
  · rintro ⟨r, hr, sup⟩
    by_cases hk : r.key = old.key
    · have same := h.findRecord_mem hr
      rw [hk, held] at same
      cases same
      exact .inl sup
    · exact .inr ⟨r, ⟨hr, hk⟩, sup⟩
  · rintro (sup | ⟨r, ⟨hr, -⟩, sup⟩)
    · exact ⟨old, (findRecord_some held).2, sup⟩
    · exact ⟨r, hr, sup⟩

/-- The supervisors of a table in which a record has been overwritten. -/
theorem supervisedBy_putRecord {l : List Record} {old r : Record} (held : findRecord l r.key = some old) (g m : Nat) :
    supervisedBy (putRecord r l) g m ↔
      r.supervises g = true ∧ r.key.origin = m ∨ supervisedBy (eraseRecord r.key l) g m := by
  simp only [supervisedBy, eraseRecord, putRecord, List.mem_filter, List.mem_map, decide_eq_true_eq]
  constructor
  · rintro ⟨x, ⟨y, hy, rfl⟩, sup⟩
    by_cases hk : y.key = r.key
    · rw [if_pos hk] at sup
      exact .inl sup
    · rw [if_neg hk] at sup
      exact .inr ⟨y, ⟨hy, hk⟩, sup⟩
  · obtain ⟨key, mem⟩ := findRecord_some held
    rintro (sup | ⟨y, ⟨hy, hk⟩, sup⟩)
    · exact ⟨r, ⟨old, mem, if_pos key⟩, sup⟩
    · exact ⟨y, ⟨y, hy, if_neg hk⟩, sup⟩

theorem supervisedBy_markStale (n : Nat) (l : List Record) (g m : Nat) :
    supervisedBy (l.map (fun r => if r.key.origin = n then { r with freshness := .stale } else r)) g m ↔
      supervisedBy l g m := by
  simp only [supervisedBy, List.mem_map]
  constructor
  · rintro ⟨x, ⟨y, hy, rfl⟩, sup⟩
    refine ⟨y, hy, ?_⟩
    split at sup <;> exact sup
  · rintro ⟨y, hy, sup⟩
    refine ⟨_, ⟨y, hy, rfl⟩, ?_⟩
    split <;> exact sup

theorem mem_touch (r : Record) (l : List Nat) (g : Nat) :
    g ∈ touch r l ↔ r.kind = .supply ∧ r.group = g ∨ g ∈ l := by
  unfold touch
  split
  next h => simp [mem_insertNat, h, eq_comm]
  next h => simp [h]

/-- A record whose operation does not touch a group does not supervise it. -/
theorem not_supervises_of_not_touched {r : Record} {l : List Nat} {g : Nat} (h : g ∉ touch r l) :
    ¬r.supervises g = true ∧ g ∉ l := by
  rw [mem_touch, not_or] at h
  refine ⟨fun sup => h.1 ?_, h.2⟩
  obtain ⟨kind, group, -⟩ := (r.supervises_iff g).1 sup
  exact ⟨kind, group⟩

/-- A group that the work of a claim does not touch has its supervisors as before. -/
theorem Worked.untouched {u : State} {w : Work} (hu : SafeTables u.own u.table) (h : Worked u w) {g : Nat}
    (hg : g ∉ w.touched) : lowestSupervisor w.te.cft g = lowestSupervisor u.table.cft g := by
  induction h with
  | start => rfl
  | note _ cft _ _ touched _ ih =>
    rw [cft]
    exact ih (touched ▸ hg)
  | place _ r absent _ _ ih =>
    obtain ⟨notSup, hg⟩ := not_supervises_of_not_touched hg
    rw [← ih hg]
    refine lowestSupervisor_congr fun m => ?_
    rw [Work.place, supervisedBy_insertRecord]
    simp [notSup]
  | replace hw old r held _ ih =>
    obtain ⟨notSup, hg⟩ := not_supervises_of_not_touched hg
    obtain ⟨notSup', hg⟩ := not_supervises_of_not_touched hg
    obtain ⟨key, -⟩ := findRecord_some held
    rw [← ih hg]
    refine lowestSupervisor_congr fun m => ?_
    rw [Work.replace, supervisedBy_putRecord held, (hw.safe hu).supervisedBy_split (key.symm ▸ held), key]
    simp [notSup, notSup']
  | refresh hw now r held ih =>
    rw [← ih hg]
    refine lowestSupervisor_congr fun m => ?_
    rw [Work.refresh, supervisedBy_putRecord (r := { r with lastHeard := some now, freshness := .fresh }) held,
      (hw.safe hu).supervisedBy_split held]
    rfl
  | @delete w hw k c ih =>
    rw [Work.delete_cft]
    cases held : findRecord w.te.cft k with
    | none =>
      have absent := Work.delete_cft w k c
      have same : w.delete k c = w := by simp only [Work.delete, held]
      rw [same] at hg absent
      rw [← absent]
      exact ih hg
    | some r =>
      have touched : (w.delete k c).touched = touch r w.touched := by simp only [Work.delete, held]
      rw [touched] at hg
      obtain ⟨notSup, hg⟩ := not_supervises_of_not_touched hg
      obtain ⟨rfl, -⟩ := findRecord_some held
      rw [← ih hg]
      refine lowestSupervisor_congr fun m => ?_
      rw [(hw.safe hu).supervisedBy_split held]
      simp [notSup]
  | markStale _ n ih =>
    rw [← ih hg]
    exact lowestSupervisor_congr fun m => supervisedBy_markStale n _ g m
  | graceEnd _ g' d _ ih => exact ih hg

/-- The work of a claim leaves the flag, and takes from the group table RETURNING entries only, which ends them. -/
theorem Worked.groups {u : State} {w : Work} (h : Worked u w) :
    w.te.groupTableFull = u.table.groupTableFull ∧ ∀ g, findEntry w.te.groups g = findEntry u.table.groups g ∨
      findEntry w.te.groups g = none ∧ ∃ e, findEntry u.table.groups g = some e ∧ e.state.supervisor = none := by
  have unchanged {w v : Work} (groups : v.te.groups = w.te.groups) (full : v.te.groupTableFull = w.te.groupTableFull)
      (ih : w.te.groupTableFull = u.table.groupTableFull ∧ ∀ g, findEntry w.te.groups g = findEntry u.table.groups g ∨
        findEntry w.te.groups g = none ∧ ∃ e, findEntry u.table.groups g = some e ∧ e.state.supervisor = none) :
      v.te.groupTableFull = u.table.groupTableFull ∧ ∀ g, findEntry v.te.groups g = findEntry u.table.groups g ∨
        findEntry v.te.groups g = none ∧ ∃ e, findEntry u.table.groups g = some e ∧ e.state.supervisor = none := by
    rw [groups, full]
    exact ih
  induction h with
  | start => exact ⟨rfl, fun _ => .inl rfl⟩
  | note _ _ groups full _ _ ih => exact unchanged groups full ih
  | place _ r _ _ _ ih => exact ih
  | replace _ old r _ _ ih => exact ih
  | refresh _ now r _ ih => exact ih
  | delete _ k c ih =>
    refine unchanged (Work.delete_groups ..) ?_ ih
    unfold Work.delete
    split <;> rfl
  | markStale _ n ih => exact ih
  | graceEnd _ g d returning ih =>
    obtain ⟨e, he, hst⟩ := returning
    refine ⟨ih.1, fun h => ?_⟩
    dsimp only
    rw [findEntry_eraseGroup]
    by_cases hh : h = g
    · subst hh
      rw [if_pos rfl]
      obtain same | ⟨none, -⟩ := ih.2 h
      · exact .inr ⟨rfl, e, same ▸ he, by rw [hst]; rfl⟩
      · rw [none] at he
        cases he
    · rw [if_neg hh]
      exact ih.2 h

/-! ### The close brings the groups level -/

theorem TableEngine.groupFullCheck_full (te : TableEngine) : te.groupFullCheck.1.groupTableFull =
    (te.groupTableFull && !(decide (te.groups.length ≤ Config.groupFullClear) && (lackingGroups te).isEmpty)) := by
  unfold TableEngine.groupFullCheck
  generalize (decide (te.groups.length ≤ Config.groupFullClear)) = small
  cases small <;> cases hl : (lackingGroups te).isEmpty <;> cases hf : te.groupTableFull <;> simp [hf]

/-- The entries match once the close of a claim has brought the touched groups level, where they matched before. -/
theorem EntriesMatch.close {u : State} {w : Work} (hu : SafeTables u.own u.table) (hm : EntriesMatch u.table)
    (h : Worked u w) (s : State) : EntriesMatch (w.close s).te := by
  obtain ⟨full, kept⟩ := h.groups
  have untouched {g : Nat} (hg : g ∉ w.touched) :
      findEntry (w.levelled s).te.groups g = findEntry w.te.groups g :=
    findEntry_groupEffects_of_not_mem s w.opened hg
  have levelled : ∀ g e, findEntry (w.levelled s).te.groups g = some e →
      e.state.supervisor = lowestSupervisor w.te.cft g := by
    intro g e he
    by_cases hg : g ∈ w.touched
    · exact (groupEffects_level s w.opened hg).supervisor he
    · rw [untouched hg] at he
      rw [h.untouched hu hg]
      obtain same | ⟨none, -⟩ := kept g
      · exact hm.supervisor g e (same ▸ he)
      · rw [none] at he
        cases he
  have covered : (w.levelled s).te.groupTableFull = false → ∀ g, lowestSupervisor w.te.cft g ≠ none →
      findEntry (w.levelled s).te.groups g ≠ none := by
    intro clear g lowest
    obtain ⟨clear', entries⟩ := groupEffects_full s (c := w.opened) clear
    by_cases hg : g ∈ w.touched
    · exact entries g hg lowest
    · rw [h.untouched hu hg] at lowest
      rw [untouched hg]
      obtain same | ⟨-, e, he, unsupervised⟩ := kept g
      · rw [same]
        exact hm.covered (full ▸ clear') g lowest
      · exact absurd ((hm.supervisor g e he).symm.trans unsupervised) lowest
  refine ⟨fun g e he => ?_, fun clear g lowest => ?_⟩
  · rw [w.close_groups_eq] at he
    rw [w.close_cft]
    cases hl : findEntry (w.levelled s).te.groups g with
    | some e' =>
      rw [Work.rescanned, GroupWork.findEntry_rescan_of_some hl] at he
      cases he
      exact levelled g e hl
    | none =>
      cases hsup : lowestSupervisor w.te.cft g with
      | none =>
        rw [Work.rescanned, GroupWork.findEntry_rescan_of_unsupervised ((w.levelled_cft s).symm ▸ hsup), hl] at he
        cases he
      | some m =>
        obtain made | ⟨none, -⟩ := GroupWork.rescan_lacking hl ((w.levelled_cft s).symm ▸ hsup)
        · rw [Work.rescanned, made] at he
          cases he
          rfl
        · rw [Work.rescanned, none] at he
          cases he
  · rw [w.close_groups_eq]
    rw [w.close_cft] at lowest
    rw [w.close_full, TableEngine.groupFullCheck_full, Bool.and_eq_false_iff] at clear
    obtain clear | cleared := clear
    · have clear' : (w.levelled s).te.groupTableFull = false := by
        rw [← GroupWork.rescan_full]
        exact clear
      obtain ⟨e, he⟩ := Option.ne_none_iff_exists'.1 (covered clear' g lowest)
      rw [Work.rescanned, GroupWork.findEntry_rescan_of_some he]
      exact nofun
    · have none_lacking : lackingGroups (w.rescanned s).te = [] := by
        simp only [Bool.not_eq_false', Bool.and_eq_true, List.isEmpty_iff] at cleared
        exact cleared.2
      intro absent
      have lacking := (mem_lackingGroups (w.rescanned s).te g).2 ⟨absent, by rwa [w.rescanned_cft]⟩
      rw [none_lacking] at lacking
      cases lacking

end Sys2Proof.Machine

/-!
PROOFS. The Table Engine's part of a REJOIN (R31, R54), the cases of the profile read, and the tables after every step.
-/
namespace Sys2Proof.Machine

/-! ### The Table Engine's part of a REJOIN (R31, R54) -/

/-- The own records of a table. -/
def ownRecords (own : Nat) (cft : List Record) : List Record := cft.filter (fun r => decide (r.key.origin = own))

theorem mem_ownRecords {own : Nat} {cft : List Record} {r : Record} :
    r ∈ ownRecords own cft ↔ r ∈ cft ∧ r.key.origin = own := by
  simp [ownRecords]

theorem TableEngine.rejoinPart_cft (te : TableEngine) (own deadline W : Nat) :
    (te.rejoinPart own deadline W).cft = ownRecords own te.cft := rfl

theorem TableEngine.rejoinPart_groups (te : TableEngine) (own deadline W : Nat) :
    (te.rejoinPart own deadline W).groups = rejoinGroups own deadline (ownRecords own te.cft) te.groups := rfl

theorem supplyStands_iff (cft : List Record) (g : Nat) (st : OriginState) :
    supplyStands cft g st = true ↔ ∃ r ∈ cft, r.kind = .supply ∧ r.group = g ∧ r.state = st := by
  simp [supplyStands, and_assoc]

theorem supplyStands_opened_iff (cft : List Record) (g : Nat) :
    supplyStands cft g .opened = true ↔ lowestSupervisor cft g ≠ none := by
  simp [supplyStands_iff, lowestSupervisor_eq_none, Record.supervises_iff, -not_and]

/-- Among own records the lowest supervisor is this station. -/
theorem lowestSupervisor_ownRecords {own g m : Nat} {cft : List Record}
    (h : lowestSupervisor (ownRecords own cft) g = some m) : m = own := by
  obtain ⟨⟨r, hr, -, rfl⟩, -⟩ := (lowestSupervisor_eq_some ..).1 h
  exact (mem_ownRecords.1 hr).2

section RejoinEntry

variable {own deadline g : Nat} {cft : List Record} {groups : List GroupEntry}

theorem rejoinEntry_opened (h : supplyStands cft g .opened = true) :
    rejoinEntry own deadline cft groups g = some ⟨g, .down own⟩ := by
  simp only [rejoinEntry, h, if_true]

theorem rejoinEntry_gone (ho : supplyStands cft g .opened = false) (hc : supplyStands cft g .cleared = false) :
    rejoinEntry own deadline cft groups g = none := by
  simp only [rejoinEntry, ho, hc, Bool.false_eq_true, if_false]

theorem rejoinEntry_cleared (ho : supplyStands cft g .opened = false) (hc : supplyStands cft g .cleared = true) :
    rejoinEntry own deadline cft groups g = entryAfter deadline g false (findEntry groups g) none := by
  simp only [rejoinEntry, ho, hc, Bool.false_eq_true, if_false, if_true]
  cases hf : findEntry groups g with
  | none => rfl
  | some e =>
    obtain ⟨rfl, -⟩ := findEntry_some hf
    obtain ⟨h, m | d⟩ := e <;> rfl

/-- An entry that the recompute leaves is of its group, of which an own SUPPLY record stands. -/
theorem rejoinEntry_some {e : GroupEntry} (h : rejoinEntry own deadline cft groups g = some e) :
    e.group = g ∧ ∃ r ∈ cft, r.group = g := by
  cases ho : supplyStands cft g .opened with
  | true =>
    rw [rejoinEntry_opened ho] at h
    cases h
    obtain ⟨r, hr, -, group, -⟩ := (supplyStands_iff ..).1 ho
    exact ⟨rfl, r, hr, group⟩
  | false =>
    cases hc : supplyStands cft g .cleared with
    | false =>
      rw [rejoinEntry_gone ho hc] at h
      cases h
    | true =>
      rw [rejoinEntry_cleared ho hc] at h
      obtain ⟨r, hr, -, group, -⟩ := (supplyStands_iff ..).1 hc
      refine ⟨?_, r, hr, group⟩
      cases hf : findEntry groups g with
      | none => rw [hf] at h; cases h
      | some x =>
        obtain ⟨hx, -⟩ := findEntry_some hf
        rw [hf] at h
        obtain ⟨k, m | d⟩ := x <;> cases h <;> exact hx

/-- The recompute looks at every group that may have an entry after it. -/
theorem rejoinEntry_looked (h : rejoinEntry own deadline cft groups g ≠ none) :
    g ∈ mergeNat (groups.map (·.group)) (supervisedGroups cft) := by
  rw [mem_mergeNat, mem_supervisedGroups, ← supplyStands_opened_iff]
  by_cases ho : supplyStands cft g .opened = true
  · exact .inr ho
  · left
    rw [Bool.not_eq_true] at ho
    cases hc : supplyStands cft g .cleared with
    | false => exact absurd (rejoinEntry_gone ho hc) h
    | true =>
      rw [rejoinEntry_cleared ho hc] at h
      cases hf : findEntry groups g with
      | none => rw [hf] at h; exact absurd rfl h
      | some e =>
        obtain ⟨rfl, mem⟩ := findEntry_some hf
        exact List.mem_map_of_mem mem

variable (own deadline cft groups) in
theorem rejoinGroups_ascend : GroupsAscend (rejoinGroups own deadline cft groups) := by
  have looked := mergeNat_ascending (groups.map (·.group)) _ (supervisedGroups_ascending cft)
  rw [GroupsAscend, List.pairwise_map]
  refine looked.filterMap _ fun g h lt e he f hf => ?_
  rwa [(rejoinEntry_some he).1, (rejoinEntry_some hf).1]

variable (own deadline cft groups) in
theorem findEntry_rejoinGroups (g : Nat) :
    findEntry (rejoinGroups own deadline cft groups) g = rejoinEntry own deadline cft groups g := by
  cases he : rejoinEntry own deadline cft groups g with
  | none =>
    refine findEntry_eq_none.2 fun e mem => ?_
    obtain ⟨h, -, hh⟩ := List.mem_filterMap.1 mem
    rw [(rejoinEntry_some hh).1]
    rintro rfl
    rw [he] at hh
    cases hh
  | some e =>
    have mem : e ∈ rejoinGroups own deadline cft groups :=
      List.mem_filterMap.2 ⟨g, rejoinEntry_looked (own := own) (deadline := deadline) (by simp [he]), he⟩
    have found := (rejoinGroups_ascend own deadline cft groups).findEntry_mem mem
    rwa [(rejoinEntry_some he).1] at found

end RejoinEntry

/-- A station holds at most one own record for each of its 65 slots. -/
theorem SafeTables.ownRecords_length {own : Nat} {te : TableEngine} (h : SafeTables own te) :
    (ownRecords own te.cft).length ≤ 65 := by
  have points : ((ownRecords own te.cft).map (·.key.point)).Nodup := by
    have order : (ownRecords own te.cft).Pairwise (fun a b => a.key.lt b.key = true) :=
      (List.pairwise_map.1 h.order).filter _
    refine (List.pairwise_map.2 ?_)
    refine order.imp_of_mem fun ha hb lt => ?_
    have origins := (mem_ownRecords.1 ha).2.trans (mem_ownRecords.1 hb).2.symm
    rw [Key.lt_iff] at lt
    omega
  have small : (ownRecords own te.cft).map (·.key.point) ⊆ List.range 65 := by
    intro p hp
    obtain ⟨r, hr, rfl⟩ := List.mem_map.1 hp
    exact List.mem_range.2 (Nat.lt_succ_of_le (h.holdable r (mem_ownRecords.1 hr).1).1)
  simpa using (points.subperm small).length_le

theorem rejoinGroups_length (own deadline : Nat) (cft : List Record) (groups : List GroupEntry) :
    (rejoinGroups own deadline cft groups).length ≤ cft.length := by
  have nodup : ((rejoinGroups own deadline cft groups).map (·.group)).Nodup :=
    (rejoinGroups_ascend own deadline cft groups).imp Nat.ne_of_lt
  have recorded : (rejoinGroups own deadline cft groups).map (·.group) ⊆ cft.map (·.group) := by
    intro g hg
    obtain ⟨e, he, rfl⟩ := List.mem_map.1 hg
    obtain ⟨h, -, hh⟩ := List.mem_filterMap.1 he
    obtain ⟨rfl, r, hr, group⟩ := rejoinEntry_some hh
    exact List.mem_map.2 ⟨r, hr, group⟩
  simpa using (nodup.subperm recorded).length_le

theorem SafeTables.rejoinPart {own : Nat} {te : TableEngine} (h : SafeTables own te) (deadline W : Nat) :
    SafeTables own (te.rejoinPart own deadline W) := by
  refine ⟨h.order.sublist (List.filter_sublist.map _), fun r hr => h.holdable r (List.mem_of_mem_filter hr), ?_,
    rejoinGroups_ascend own deadline _ _, ?_⟩
  · refine (Nat.le_of_eq ?_).trans (Nat.zero_le _)
    simp [peerCount, TableEngine.rejoinPart]
  · have length := rejoinGroups_length own deadline (ownRecords own te.cft) te.groups
    have most : 65 ≤ Config.groupPlaces := by decide
    exact length.trans (h.ownRecords_length.trans most)

theorem EntriesMatch.rejoinPart (te : TableEngine) (own deadline W : Nat) :
    EntriesMatch (te.rejoinPart own deadline W) := by
  have entry := findEntry_rejoinGroups own deadline (ownRecords own te.cft) te.groups
  refine ⟨fun g e he => ?_, fun _ g lowest => ?_⟩
  · rw [te.rejoinPart_groups, entry] at he
    rw [te.rejoinPart_cft]
    cases ho : supplyStands (ownRecords own te.cft) g .opened with
    | true =>
      rw [rejoinEntry_opened ho] at he
      cases he
      obtain ⟨m, hm⟩ := Option.ne_none_iff_exists'.1 ((supplyStands_opened_iff ..).1 ho)
      rw [hm, lowestSupervisor_ownRecords hm]
      rfl
    | false =>
      have unsupervised : lowestSupervisor (ownRecords own te.cft) g = none := by
        by_contra lowest
        rw [(supplyStands_opened_iff ..).2 lowest] at ho
        cases ho
      rw [unsupervised]
      cases hc : supplyStands (ownRecords own te.cft) g .cleared with
      | false =>
        rw [rejoinEntry_gone ho hc] at he
        cases he
      | true =>
        rw [rejoinEntry_cleared ho hc] at he
        exact (levelled_entryAfter (full := True) (fun _ => trivial) _ none).supervisor he
  · rw [te.rejoinPart_groups, entry]
    rw [te.rejoinPart_cft] at lowest
    rw [rejoinEntry_opened ((supplyStands_opened_iff ..).2 lowest)]
    exact nofun

/-! ### The profile read, and the parts of a REJOIN, case by case -/

/-- What the header's arrival can do (R186, R190). -/
theorem profileHeaderTaken_cases (header : List Byte) (s : State) :
    profileHeaderTaken header s = s ∨ s.loader.state = .loading ∧
      ((∃ crc, profileHeaderTaken header s = { s with loader := { s.loader with reading := .image crc } }) ∨
        ∃ e, profileHeaderTaken header s = s.halt e 0) := by
  unfold profileHeaderTaken
  split
  next h =>
    refine .inr ⟨h.1, ?_⟩
    split
    · exact .inl ⟨_, rfl⟩
    · exact .inr ⟨_, rfl⟩
  next => exact .inl rfl

/-- What the end of the profile read can do (R190, R194, R195). -/
theorem profileReadDone_cases (image : List Byte) (duskOn : Bool) (levels : BitVec 64) (s : State) :
    profileReadDone image duskOn levels s = s ∨ s.loader.state = .loading ∧
      ((∃ crc, firstError (imageChecks crc image) = .none ∧
        profileReadDone image duskOn levels s = s.loadCompletes (readProfile image) duskOn levels) ∨
        ∃ e n, profileReadDone image duskOn levels s = s.halt e n) := by
  unfold profileReadDone
  split
  next crc hl hr =>
    refine .inr ⟨hl, ?_⟩
    split
    next he => exact .inl ⟨crc, he, rfl⟩
    next => exact .inr ⟨_, _, rfl⟩
  next => exact .inl rfl

/-- What the transmitter's part of a REJOIN can do (R104, R152, R200). -/
theorem transmitterRejoinPart_cases (s : State) : transmitterRejoinPart s = s ∨
    ∃ d, s.loader.rejoin = some ⟨false, d⟩ ∧ s.lineFree = true ∧ transmitterRejoinPart s = { s with
      loader := { s.loader with rejoin := some ⟨true, d⟩ }, tx := s.tx.rejoinPart, origin := s.origin.rejoinPart } := by
  unfold transmitterRejoinPart
  split
  next d hr =>
    split
    next free => exact .inr ⟨d, hr, free, rfl⟩
    next => exact .inl rfl
  next => exact .inl rfl

/-- The table after the Table Engine's part of a REJOIN. -/
def State.rejoinedTable (s : State) : TableEngine :=
  s.table.rejoinPart s.own (s.nowSec + s.returnGrace) s.window

/-- What the Table Engine's part of a REJOIN can do (R31, R54, R55, R129, R200). -/
theorem tableEngineRejoinPart_cases (s : State) : tableEngineRejoinPart s = s ∨
    ∃ d signals, s.loader.rejoin = some ⟨d, false⟩ ∧ tableEngineRejoinPart s = { s with
      loader := { s.loader with rejoin := some ⟨d, true⟩ }
      table := s.rejoinedTable
      roster := .start
      rx := { s.rx with queue := [] }
      origin := { s.origin with stationIn := s.origin.stationIn ++ s.table.rejoinClears
                                holdIn := s.origin.holdIn ++ signals }
      port := { s.port with dump := s.port.dump.discardBuild }.gateAll
        (groupNotices s.table.groups s.rejoinedTable.groups s.rejoinedTable.cft) } := by
  unfold tableEngineRejoinPart
  split
  next d hr => exact .inr ⟨d, _, hr, rfl⟩
  next => exact .inl rfl

/-- What the completion of a REJOIN can do (R183, R202). -/
theorem rejoinComplete_cases (s : State) : rejoinComplete s = s ∨
    s.loader.rejoin = some ⟨true, true⟩ ∧ s.clearsTaken = true ∧ rejoinComplete s = { s with
      loader := { s.loader with
        state := .listening, rejoin := none, listenEnd := some (s.now + listeningTicks s.window s.own) }
      port := { s.port.post .rejoinOk with service := .free } } := by
  unfold rejoinComplete
  split
  next hr =>
    split
    next taken => exact .inr ⟨hr, taken, rfl⟩
    next => exact .inl rfl
  next => exact .inl rfl

/-- The Origin Unit at the entry to IN-STEP (R97, R102). -/
def State.enteredOrigin (s : State) : OriginUnit :=
  { s.origin with changeQueue := s.entryQueue, pointer := 0, stepDue := some (s.now + stepInterval s.window) }

/-- What the end of LISTENING can do (R97, R102, R198). -/
theorem listeningTimerEnd_cases (s : State) : listeningTimerEnd s = s ∨
    s.loader.state = .listening ∧ due s.loader.listenEnd s.now = true ∧ listeningTimerEnd s =
      State.wake { s with loader := { s.loader with state := .inStep, listenEnd := none }, origin := s.enteredOrigin } := by
  unfold listeningTimerEnd
  split
  next h => exact .inr ⟨h.1, h.2, rfl⟩
  next => exact .inl rfl

end Sys2Proof.Machine

/-!
PROOFS. What every step keeps of the tables (O55, O56).
-/
namespace Sys2Proof.Machine

/-- The station number and the tables are the same. -/
structure SameTables (s t : State) : Prop where
  own : t.own = s.own
  cft : t.table.cft = s.table.cft
  groups : t.table.groups = s.table.groups
  full : t.table.groupTableFull = s.table.groupTableFull

theorem SameTables.of_frame {s t : State} (profile : t.loader.profile = s.loader.profile) (table : t.table = s.table) :
    SameTables s t :=
  ⟨by rw [State.own, profile]; rfl, by rw [table], by rw [table], by rw [table]⟩

theorem SameTables.safe {s t : State} (same : SameTables s t) (h : SafeTables s.own s.table) :
    SafeTables t.own t.table := by
  rw [same.own]
  exact h.congr same.cft same.groups

theorem SameTables.entriesMatch {s t : State} (same : SameTables s t) (h : EntriesMatch s.table) :
    EntriesMatch t.table := by
  obtain ⟨supervisor, covered⟩ := h
  constructor
  · rw [same.cft, same.groups]
    exact supervisor
  · rw [same.full, same.cft, same.groups]
    exact covered

/-- A station with empty tables, whatever its number. -/
theorem SafeTables.of_empty {own : Nat} {te : TableEngine} (cft : te.cft = []) (groups : te.groups = []) :
    SafeTables own te := by
  obtain ⟨c, g, _⟩ := te
  dsimp only at cft groups
  subst cft groups
  exact ⟨.nil, by simp, by simp [peerCount], .nil, by simp⟩

/-- The tables are safe, and the entries match the records. -/
def State.TablesKept (s : State) : Prop := SafeTables s.own s.table ∧ EntriesMatch s.table

theorem SameTables.kept {s t : State} (same : SameTables s t) (h : s.TablesKept) : t.TablesKept :=
  ⟨same.safe h.1, same.entriesMatch h.2⟩

theorem Safe.tablesKept {s : State} (h : Safe s) : s.TablesKept := by
  obtain ⟨-, -, -, tables, groups, -⟩ := h
  have safe := (tableSafe_iff s).1 tables
  exact ⟨safe, (groupsMatch_iff safe.groupOrder).1 groups⟩

theorem EntriesMatch.congr {te te' : TableEngine} (h : EntriesMatch te) (cft : te'.cft = te.cft)
    (groups : te'.groups = te.groups) (full : te'.groupTableFull = te.groupTableFull) : EntriesMatch te' := by
  obtain ⟨supervisor, covered⟩ := h
  exact ⟨by rwa [cft, groups], by rwa [cft, groups, full]⟩

theorem ClaimMove.tablesKept {s t : State} (h : ClaimMove s t) (ho : OriginSafe s) (hs : s.TablesKept) :
    t.TablesKept := by
  obtain ⟨safe, entries⟩ := hs
  cases h with
  | none => exact ⟨safe, entries⟩
  | closed _ u w extra frame _ work =>
    have worked := work ho safe
    have before : EntriesMatch u.table := entries.congr (by rw [frame.eq]) (by rw [frame.eq]) (by rw [frame.eq])
    exact ⟨(worked.safe (frame.tables safe)).close u, before.close (frame.tables safe) worked u⟩
  | page =>
    have kept : SafeTables s.own (Work.begin s.table).te := safe
    exact ⟨kept.close s, entries.close safe .start s⟩

theorem startup_tablesKept {i : Instr} (hb : commandBlock i = .startup) {s : State} (hl : LoaderSafe s)
    (hs : s.TablesKept) : (effect i s).TablesKept := by
  obtain ⟨profile, empty⟩ := hl
  have same {t : State} (profile : t.loader.profile = s.loader.profile) (table : t.table = s.table) : t.TablesKept :=
    (SameTables.of_frame profile table).kept hs
  cases i <;> cases hb
  case reset =>
    exact ⟨.of_empty rfl rfl, ⟨fun g e he => (by cases he), fun _ g lowest => absurd rfl lowest⟩⟩
  case profileHeaderTaken header =>
    obtain h | ⟨-, ⟨crc, h⟩ | ⟨e, h⟩⟩ := profileHeaderTaken_cases header s
    all_goals
      simp only [effect]
      rw [h]
      exact same rfl rfl
  case profileReadDone image duskOn levels =>
    obtain h | ⟨loading, ⟨crc, -, h⟩ | ⟨e, n, h⟩⟩ := profileReadDone_cases image duskOn levels s
    all_goals
      simp only [effect]
      rw [h]
    · exact hs
    · obtain ⟨-, cft, groups, -⟩ := empty (profile.2 (.inl loading))
      exact ⟨.of_empty cft groups, hs.2⟩
    · exact same rfl rfl
  case transmitterRejoinPart =>
    obtain h | ⟨d, -, -, h⟩ := transmitterRejoinPart_cases s
    all_goals
      simp only [effect]
      rw [h]
      exact same rfl rfl
  case tableEngineRejoinPart =>
    obtain h | ⟨d, signals, -, h⟩ := tableEngineRejoinPart_cases s
    all_goals
      simp only [effect]
      rw [h]
    · exact hs
    · exact ⟨hs.1.rejoinPart .., .rejoinPart ..⟩
  case rejoinComplete =>
    obtain h | ⟨-, -, h⟩ := rejoinComplete_cases s
    all_goals
      simp only [effect]
      rw [h]
      exact same rfl rfl
  case listeningTimerEnd =>
    obtain h | ⟨-, -, h⟩ := listeningTimerEnd_cases s
    all_goals
      simp only [effect]
      rw [h]
    · exact hs
    · exact same (by rw [State.wake_loader]) (by rw [State.wake_table])

/-- What a command leaves of the tables. -/
theorem effect_tablesKept (i : Instr) (s : State) (ok : i.wellFormed = true) (hs : Safe s) :
    (effect i s).TablesKept := by
  have kept := hs.tablesKept
  obtain ⟨loader, -, origin, -⟩ := hs
  have same {t : State} (profile : t.loader.profile = s.loader.profile) (table : t.table = s.table) : t.TablesKept :=
    (SameTables.of_frame profile table).kept kept
  cases hb : commandBlock i with
  | field => rw [(field_frame hb ok s).eq]; exact same rfl rfl
  | origin =>
    by_cases hi : i = .ownAckDecision
    · subst hi
      obtain h | ⟨o, k, seen, t, r, -, frame, h⟩ := ownAckDecision_cases s
      · simp only [effect]; rw [h]; exact kept
      · simp only [effect]; rw [h, frame.eq]; exact same rfl rfl
    · rw [(originFrame_of_block hb hi s).eq]; exact same rfl rfl
  | line =>
    refine line_keeps hb (P := State.TablesKept) (fun s t _ hs move => ?_) kept
    rw [move.frame.eq]
    exact (SameTables.of_frame (t := _) rfl rfl).kept hs
  | timers => rw [(timers_frame hb s).eq]; exact same rfl rfl
  | deadlines =>
    rw [(deadlines_frame hb s).eq]
    refine SameTables.kept (s := s) ?_ kept
    exact ⟨rfl, rfl, rfl, rfl⟩
  | claims => exact (claim_move s hb).tablesKept origin kept
  | assembler => rw [(assembler_frame hb s).eq]; exact same rfl rfl
  | service => rw [(service_frame hb s).eq]; exact same rfl rfl
  | output => rw [(output_frame hb s).eq]; exact same rfl rfl
  | startup => exact startup_tablesKept hb loader kept

/-- The queue's rest is no part of what a step keeps. -/
theorem Safe.unqueue (s : State) (rest : List Instr) (h : Safe s) : Safe { s with pending := rest } := h

theorem step_tablesKept {s t : State} (hs : Safe s) (h : step s = .next t) : t.TablesKept :=
  step_keeps Safe.unqueue (fun _ hs => hs.tablesKept) effect_tablesKept hs h

/-- Settles O55: the tables are written by the claims and by the REJOIN alone. -/
theorem stepsKeepTheTables : Obligations.StepsKeepTheTables :=
  fun _ t hs h => (tableSafe_iff t).2 (step_tablesKept hs h).1

/-- Settles O56: the close of a claim brings the groups level with the records that its work has touched. -/
theorem stepsKeepGroupsMatchingRecords : Obligations.StepsKeepGroupsMatchingRecords := fun _ _ hs h =>
  have kept := step_tablesKept hs h
  (groupsMatch_iff kept.1.groupOrder).2 kept.2

end Sys2Proof.Machine

/-!
PROOFS. What every step keeps of the roster, the line's counts and the time (O57).
-/
namespace Sys2Proof.Machine

/-! ### The roster (R107, R111, R114) -/

/-- The roster of station `own` in order: its stations ascend and are peers, and no two events wait for one station. -/
structure RosterUnit.InOrder (own : Nat) (u : RosterUnit) : Prop where
  order : (u.entries.map (·.station)).Pairwise (· < ·)
  peers : ∀ n ∈ u.entries.map (·.station), stationOk n = true ∧ n ≠ own
  events : (u.events.map (·.station)).Nodup

theorem rosterSafe_iff (s : State) : RosterSafe s ↔ s.roster.InOrder s.own := by
  constructor
  · rintro ⟨order, peers, events⟩
    exact ⟨order, by simpa using peers, events⟩
  · rintro ⟨order, peers, events⟩
    exact ⟨order, by simpa using peers, events⟩

theorem insertPeerEntry_perm (e : RosterEntry) (l : List RosterEntry) : (insertPeerEntry e l).Perm (e :: l) := by
  induction l with
  | nil => exact .refl _
  | cons x l ih =>
    unfold insertPeerEntry
    split
    · exact .refl _
    · exact (ih.cons x).trans (.swap e x l)

theorem insertPeerEntry_order {e : RosterEntry} {l : List RosterEntry} (absent : e.station ∉ l.map (·.station))
    (h : (l.map (·.station)).Pairwise (· < ·)) : ((insertPeerEntry e l).map (·.station)).Pairwise (· < ·) := by
  induction l with
  | nil => simp [insertPeerEntry]
  | cons x l ih =>
    obtain ⟨first, rest⟩ := List.pairwise_cons.1 h
    obtain ⟨hx, hl⟩ : e.station ≠ x.station ∧ e.station ∉ l.map (·.station) := by simpa using absent
    unfold insertPeerEntry
    split
    next lt =>
      refine List.pairwise_cons.2 ⟨fun n hn => ?_, h⟩
      obtain rfl | hn := List.mem_cons.1 hn
      · exact lt
      · exact lt.trans (first n hn)
    next lt =>
      refine List.pairwise_cons.2 ⟨fun n hn => ?_, ih hl rest⟩
      have hn' : n = e.station ∨ n ∈ l.map (·.station) := by
        simpa using (((insertPeerEntry_perm e l).map (·.station)).mem_iff (a := n)).1 hn
      obtain rfl | hn' := hn'
      · exact lt_of_le_of_ne (Nat.not_lt.1 lt) hx.symm
      · exact first n hn'

@[simp] theorem RosterUnit.makeEvent_entries (u : RosterUnit) (n : Nat) (st : PeerState) :
    (u.makeEvent n st).entries = u.entries := by
  unfold RosterUnit.makeEvent
  split <;> rfl

namespace RosterUnit.InOrder

variable {own : Nat} {u : RosterUnit} (h : u.InOrder own)
include h

theorem put (e : RosterEntry) : (u.put e).InOrder own := by
  refine ⟨?_, ?_, h.events⟩
  · rw [u.put_stations]
    exact h.order
  · rw [u.put_stations]
    exact h.peers

theorem makeEvent (n : Nat) (st : PeerState) : (u.makeEvent n st).InOrder own := by
  refine ⟨by rw [u.makeEvent_entries]; exact h.order, by rw [u.makeEvent_entries]; exact h.peers, ?_⟩
  rw [u.makeEvent_events]
  split
  next => exact h.events.sublist (List.filter_sublist.map _)
  next fresh =>
    rw [List.map_append, List.nodup_append']
    exact ⟨h.events, List.nodup_singleton _, by simpa using fresh⟩

theorem insert {e : RosterEntry} (absent : u.find e.station = none) (peer : stationOk e.station = true ∧ e.station ≠ own) :
    RosterUnit.InOrder own { u with entries := insertPeerEntry e u.entries } := by
  have fresh : e.station ∉ u.entries.map (·.station) := by
    simpa [RosterUnit.find, List.find?_eq_none] using absent
  refine ⟨insertPeerEntry_order fresh h.order, fun n hn => ?_, h.events⟩
  have hn' : n = e.station ∨ n ∈ u.entries.map (·.station) := by
    simpa using (((insertPeerEntry_perm e u.entries).map (·.station)).mem_iff (a := n)).1 hn
  obtain rfl | hn' := hn'
  · exact peer
  · exact h.peers n hn'

theorem heard (now : Nat) {n : Nat} (peer : stationOk n = true ∧ n ≠ own) : (u.heard now n).InOrder own := by
  cases hf : u.find n with
  | none =>
    rw [RosterUnit.heard_of_unknown hf]
    exact h.insert (e := RosterEntry.first n now) hf peer
  | some e =>
    cases hs : e.state with
    | present =>
      rw [RosterUnit.heard_of_present hf hs]
      exact h.put _
    | silent =>
      rw [RosterUnit.heard_of_silent hf hs]
      exact (h.put _).makeEvent _ _

theorem silence (e : RosterEntry) : (u.silence e).InOrder own := (h.put _).makeEvent _ _

theorem storeTag (n : Nat) (tag : Word16) : (u.storeTag n tag).InOrder own := by
  unfold RosterUnit.storeTag
  split
  · exact h.put _
  · exact h

theorem storeWindow (W now n window : Nat) : (u.storeWindow W now n window).InOrder own := by
  unfold RosterUnit.storeWindow
  dsimp only
  repeat' split
  · exact h
  · exact h
  · exact (h.put _).silence _
  · exact h.put _

theorem takeEvent : RosterUnit.InOrder own { u with events := u.events.drop 1 } :=
  ⟨h.order, h.peers, h.events.sublist ((List.drop_sublist 1 _).map _)⟩

end RosterUnit.InOrder

theorem RosterMove.inOrder {s : State} {u : RosterUnit} (h : RosterMove s u) (hs : s.roster.InOrder s.own) :
    u.InOrder s.own := by
  cases h with
  | same => exact hs
  | taken => exact hs.takeEvent
  | tagged n tag => exact hs.storeTag n tag
  | windowed n window tag => exact (hs.storeTag n tag).storeWindow ..

/-! ### The counts of the line, and the time (R56, R107, R146, R147) -/

/-- The roster is in order, and the line's counts and the tick count keep their bounds. -/
structure State.LineKept (s : State) : Prop where
  roster : s.roster.InOrder s.own
  queue : s.rx.queue.length ≤ Config.receivePlaces
  failures : s.tx.failures ≤ 16
  fails : ∀ c ∈ s.tx.current, c.fails ≤ 7
  tick : s.time.tick < Config.ticksPerSecond

theorem lineKept_iff (s : State) : s.LineKept ↔ RosterSafe s ∧ LineSafe s ∧ TimeSafe s := by
  rw [rosterSafe_iff]
  constructor
  · rintro ⟨roster, queue, failures, fails, tick⟩
    exact ⟨roster, ⟨queue, failures, fails⟩, tick⟩
  · rintro ⟨roster, ⟨queue, failures, fails⟩, tick⟩
    exact ⟨roster, queue, failures, fails, tick⟩

namespace State.LineKept

variable {s t : State} (h : s.LineKept)
include h

/-- What a state that differs elsewhere keeps. -/
theorem of_frame (own : t.own = s.own) (roster : t.roster = s.roster) (queue : t.rx.queue = s.rx.queue)
    (failures : t.tx.failures = s.tx.failures) (current : t.tx.current = s.tx.current ∨ t.tx.current = none)
    (time : t.time = s.time) : t.LineKept := by
  refine ⟨by rw [own, roster]; exact h.roster, by rw [queue]; exact h.queue, by rw [failures]; exact h.failures, ?_,
    by rw [time]; exact h.tick⟩
  obtain same | none := current
  · rw [same]
    exact h.fails
  · simp [none]

end State.LineKept

theorem State.own_of_loader {s t : State} (h : t.loader.profile = s.loader.profile) : t.own = s.own := by
  rw [State.own, h]
  rfl

theorem State.endSend_current (s : State) : s.endSend.tx.current = none := by
  rw [State.endSend_frame]

theorem State.endSend_failures (s : State) : s.endSend.tx.failures = s.tx.failures := by
  rw [State.endSend_frame]

theorem State.abandonItem_tx (s : State) (i : SendItem) : (s.abandonItem i).tx = s.tx := by
  cases i with
  | change k => rfl
  | refresh k => rfl
  | ack =>
    unfold State.abandonItem
    dsimp only
    split <;> rfl

/-- What an attempt that fails or has not failed leaves of the counts of a send. -/
theorem Failed.counts {s t : State} (h : Failed s t) (fails : ∀ c ∈ s.tx.current, c.fails ≤ 7) :
    t.tx.failures ≤ 16 ∧ ∀ c ∈ t.tx.current, c.fails ≤ 7 := by
  have counted : s.failCounted.tx.failures ≤ 16 := Nat.min_le_right _ _
  cases h with
  | rested => exact ⟨counted, fails⟩
  | muted c => exact ⟨le_rfl, by simp [State.enterMute]⟩
  | abandoned c =>
    rw [State.abandon_eq, State.endSend_current, State.endSend_failures]
    refine ⟨?_, by simp⟩
    simpa [State.countAbandoned, State.abandonItem_tx] using counted
  | ended => exact ⟨by rwa [State.endSend_failures], by simp [State.endSend_current]⟩
  | retried c _ _ hf =>
    refine ⟨counted, fun d hd => ?_⟩
    obtain rfl : _ = d := Option.some.inj hd
    exact Nat.le_of_lt_succ hf

theorem Accessed.lineKept {s t : State} (h : Accessed s t) (hs : s.LineKept) : t.LineKept := by
  cases h with
  | resumed c f hc hf =>
    refine ⟨hs.roster, hs.queue, hs.failures, fun d hd => ?_, hs.tick⟩
    obtain rfl : _ = d := Option.some.inj hd
    exact hs.fails c hc
  | ended =>
    rw [State.endSend_frame]
    exact hs.of_frame rfl rfl rfl rfl (.inr rfl) rfl
  | rested => exact hs.of_frame rfl rfl rfl rfl (.inl rfl) rfl
  | begun i f hi hf =>
    rw [State.takeRefresh_eq]
    refine ⟨hs.roster, hs.queue, hs.failures, fun d hd => ?_, hs.tick⟩
    obtain rfl : _ = d := Option.some.inj hd
    exact Nat.zero_le _

theorem LineMove.lineKept {s t : State} (h : LineMove s t) (hs : s.LineKept) : t.LineKept := by
  have own : t.own = s.own := State.own_of_loader (by rw [h.frame.eq])
  have time : t.time = s.time := by rw [h.frame.eq]
  cases h with
  | receiver _ frame hq =>
    exact hs.of_frame own (by rw [frame]) hq (by rw [frame]) (.inl (by rw [frame])) time
  | turn => exact hs.of_frame own rfl rfl rfl (.inl rfl) rfl
  | clash => exact hs.of_frame own rfl rfl rfl (.inl rfl) rfl
  | arrival f hf =>
    exact ⟨hs.roster.heard _ hf, s.frameArrives_queue_length_le f hs.queue, hs.failures, hs.fails, hs.tick⟩
  | failure =>
    obtain ⟨failures, fails⟩ := s.attemptFail_failed.counts hs.fails
    have frame := s.attemptFail_frame
    refine ⟨?_, ?_, failures, fails, by rw [time]; exact hs.tick⟩
    · rw [own, frame]
      exact hs.roster
    · rw [frame]
      exact hs.queue
  | success a =>
    refine ⟨?_, ?_, ?_, ?_, by rw [time]; exact hs.tick⟩
    · rw [own, State.attemptSucceed, State.endSend_frame]
      exact hs.roster
    · rw [State.attemptSucceed, State.endSend_frame]
      exact hs.queue
    · rw [State.attemptSucceed, State.endSend_failures]
      exact Nat.zero_le _
    · simp [State.attemptSucceed, State.endSend_current]
  | echo => exact hs.of_frame own rfl rfl rfl (.inl rfl) rfl
  | access => exact s.access_accessed.lineKept hs

theorem ClaimMove.lineKept {s t : State} (h : ClaimMove s t) (hs : s.LineKept) : t.LineKept := by
  cases h with
  | none => exact hs
  | page => exact ⟨hs.roster, hs.queue, hs.failures, hs.fails, hs.tick⟩
  | closed _ u w extra frame roster =>
    have time : u.time = s.time := by rw [frame.eq]
    have tx : u.tx = s.tx := by rw [frame.eq]
    refine ⟨?_, frame.frames.length_le.trans hs.queue, ?_, ?_, ?_⟩
    · have own : (u.closeClaim w extra).own = s.own := frame.own
      rw [own]
      exact roster.inOrder hs.roster
    · rw [State.closeClaim_tx, tx]
      exact hs.failures
    · rw [State.closeClaim_tx, tx]
      exact hs.fails
    · rw [State.closeClaim_time, time]
      exact hs.tick

theorem RosterUnit.start_inOrder (own : Nat) : RosterUnit.start.InOrder own := ⟨.nil, by simp [RosterUnit.start], .nil⟩

theorem startup_lineKept {i : Instr} (hb : commandBlock i = .startup) {s : State} (hl : LoaderSafe s)
    (hs : s.LineKept) : (effect i s).LineKept := by
  obtain ⟨profile, empty⟩ := hl
  cases i <;> cases hb
  case reset =>
    exact ⟨RosterUnit.start_inOrder _, Nat.zero_le _, Nat.zero_le _, nofun, Nat.zero_lt_succ _⟩
  case profileHeaderTaken header =>
    obtain h | ⟨-, ⟨crc, h⟩ | ⟨e, h⟩⟩ := profileHeaderTaken_cases header s
    all_goals
      simp only [effect]
      rw [h]
      exact hs.of_frame rfl rfl rfl rfl (.inl rfl) rfl
  case profileReadDone image duskOn levels =>
    obtain h | ⟨loading, ⟨crc, -, h⟩ | ⟨e, n, h⟩⟩ := profileReadDone_cases image duskOn levels s
    all_goals
      simp only [effect]
      rw [h]
    · exact hs
    · obtain ⟨-, -, -, -, entries⟩ := empty (profile.2 (.inl loading))
      refine ⟨⟨?_, ?_, hs.roster.events⟩, hs.queue, hs.failures, hs.fails, hs.tick⟩
      · exact hs.roster.order
      · rw [State.loadCompletes_roster, entries]
        simp
    · exact hs.of_frame rfl rfl rfl rfl (.inl rfl) rfl
  case transmitterRejoinPart =>
    obtain h | ⟨d, -, -, h⟩ := transmitterRejoinPart_cases s
    all_goals
      simp only [effect]
      rw [h]
    · exact hs
    · exact ⟨hs.roster, hs.queue, Nat.zero_le _, by simp [LineTransmitter.rejoinPart], hs.tick⟩
  case tableEngineRejoinPart =>
    obtain h | ⟨d, signals, -, h⟩ := tableEngineRejoinPart_cases s
    all_goals
      simp only [effect]
      rw [h]
    · exact hs
    · exact ⟨RosterUnit.start_inOrder _, Nat.zero_le _, hs.failures, hs.fails, hs.tick⟩
  case rejoinComplete =>
    obtain h | ⟨-, -, h⟩ := rejoinComplete_cases s
    all_goals
      simp only [effect]
      rw [h]
      exact hs.of_frame rfl rfl rfl rfl (.inl rfl) rfl
  case listeningTimerEnd =>
    obtain h | ⟨-, -, h⟩ := listeningTimerEnd_cases s
    all_goals
      simp only [effect]
      rw [h]
    · exact hs
    · rw [State.wake_eq]
      exact hs.of_frame rfl rfl rfl rfl (.inl rfl) rfl

theorem timers_lineKept {i : Instr} (hb : commandBlock i = .timers) {s : State} (hs : s.LineKept) :
    (effect i s).LineKept := by
  cases i <;> cases hb
  case muteEnd =>
    obtain h | ⟨-, -, h⟩ := muteEnd_cases s
    all_goals
      simp only [effect]
      rw [h]
    · exact hs
    · rw [State.wake_eq]
      exact ⟨hs.roster, hs.queue, Nat.le_succ 15, hs.fails, hs.tick⟩
  case clashTimerEnd =>
    simp only [effect, clashTimerEnd]
    split <;> exact hs.of_frame rfl rfl rfl rfl (.inl rfl) rfl
  case lineMuteClearTimerEnd =>
    simp only [effect, lineMuteClearTimerEnd]
    split <;> exact hs.of_frame rfl rfl rfl rfl (.inl rfl) rfl

theorem deadlines_lineKept {i : Instr} (hb : commandBlock i = .deadlines) {s : State} (hs : s.LineKept) :
    (effect i s).LineKept := by
  have inOrder : (effect i s).roster.InOrder s.own := by
    cases i <;> cases hb
    case silenceDeadline n =>
      simp only [effect, silenceDeadline]
      repeat' split
      · exact hs.roster.silence _
      · exact hs.roster
      · exact hs.roster
    all_goals
      simp only [effect, lingerDeadlineDue, graceDeadlineDue, State.addTimer]
      repeat' split
      all_goals exact hs.roster
  rw [(deadlines_frame hb s).eq]
  exact ⟨inOrder, hs.queue, hs.failures, hs.fails, hs.tick⟩

theorem effect_lineKept (i : Instr) (s : State) (ok : i.wellFormed = true) (h : Safe s) : (effect i s).LineKept := by
  obtain ⟨loader, -, -, -, -, roster, line, -, time⟩ := h
  have hs : s.LineKept := (lineKept_iff s).2 ⟨roster, line, time⟩
  cases hb : commandBlock i with
  | field => rw [(field_frame hb ok s).eq]; exact hs.of_frame rfl rfl rfl rfl (.inl rfl) rfl
  | origin =>
    by_cases hi : i = .ownAckDecision
    · subst hi
      obtain h | ⟨o, k, seen, t, r, -, frame, h⟩ := ownAckDecision_cases s
      · simp only [effect]; rw [h]; exact hs
      · have current := frame.current
        simp only [effect]
        rw [h]
        rw [frame.eq] at current ⊢
        exact hs.of_frame rfl rfl rfl rfl current rfl
    · have frame := originFrame_of_block hb hi s
      have current := frame.current
      rw [frame.eq] at current ⊢
      exact hs.of_frame rfl rfl rfl rfl current rfl
  | line => exact line_keeps hb (P := State.LineKept) (fun _ _ _ hs move => move.lineKept hs) hs
  | timers => exact timers_lineKept hb hs
  | deadlines => exact deadlines_lineKept hb hs
  | claims => exact (claim_move s hb).lineKept hs
  | assembler => rw [(assembler_frame hb s).eq]; exact hs.of_frame rfl rfl rfl rfl (.inl rfl) rfl
  | service => rw [(service_frame hb s).eq]; exact hs.of_frame rfl rfl rfl rfl (.inl rfl) rfl
  | output => rw [(output_frame hb s).eq]; exact hs.of_frame rfl rfl rfl rfl (.inl rfl) rfl
  | startup => exact startup_lineKept hb loader hs

/-- A tick passes, and the tick count keeps its bound (R56). -/
theorem passTick_lineKept (s : State) (h : Safe s) : s.passTick.LineKept := by
  obtain ⟨-, -, -, -, -, roster, line, -, time⟩ := h
  have hs : s.LineKept := (lineKept_iff s).2 ⟨roster, line, time⟩
  exact ⟨hs.roster, hs.queue, hs.failures, hs.fails, Timebase.advance_tick_lt _⟩

/-- Settles O57: the line's commands write the roster and the counts, the claims and the silence deadlines the roster. -/
theorem stepsKeepRosterLineAndTime : Obligations.StepsKeepRosterLineAndTime := fun _ t hs h =>
  (lineKept_iff t).1 (step_keeps Safe.unqueue passTick_lineKept effect_lineKept hs h)

end Sys2Proof.Machine

/-!
PROOFS. What every step keeps of the dispatcher port: the bounds of its two queues, with the places kept for the request
in service (O53).
-/
namespace Sys2Proof.Machine

/-! ### A port whose queues keep their bounds -/

/-- The queues of the port keep their bounds, with the places that the request in service still needs. -/
structure DispatcherPort.Fits (p : DispatcherPort) : Prop where
  limit : p.limit ≤ 60
  requests : p.requests.length ≤ 8
  reports : p.reports.length + p.keptPlaces ≤ 64
  building : p.dump.isBuilding = true → p.service = .pageBuild

theorem portSafe_iff (s : State) :
    PortSafe s ↔ s.port.Fits ∧ (s.loader.rejoin.isSome = true → s.port.service = .rejoin) := by
  constructor
  · rintro ⟨limit, requests, reports, building, rejoin⟩
    exact ⟨⟨limit, requests, reports, building⟩, rejoin⟩
  · rintro ⟨⟨limit, requests, reports, building⟩, rejoin⟩
    exact ⟨limit, requests, reports, building, rejoin⟩

theorem DispatcherPort.keptPlaces_le (p : DispatcherPort) : p.keptPlaces ≤ 2 := by
  unfold DispatcherPort.keptPlaces
  split <;> decide

theorem DispatcherPort.keptPlaces_of_free {p : DispatcherPort} (h : p.service = .free) : p.keptPlaces = 0 := by
  simp only [DispatcherPort.keptPlaces, h]

namespace DispatcherPort.Fits

variable {p q : DispatcherPort} (h : p.Fits)
include h

/-- What a port that differs elsewhere keeps. -/
theorem of_frame (limit : q.limit = p.limit) (requests : q.requests.length ≤ 8) (service : q.service = p.service)
    (reports : q.reports.length ≤ p.reports.length) (dump : q.dump.isBuilding = true → p.dump.isBuilding = true) :
    q.Fits := by
  have kept : q.keptPlaces = p.keptPlaces := by
    rw [DispatcherPort.keptPlaces, service]
    rfl
  refine ⟨limit ▸ h.limit, requests, ?_, fun hb => service ▸ h.building (dump hb)⟩
  have := h.reports
  omega

theorem gate (n : Notice) : (p.gate n).Fits := by
  have bound : (p.gate n).reports.length ≤ 64 - p.keptPlaces := by
    have limit := h.limit
    have reports := h.reports
    have kept := p.keptPlaces_le
    exact p.gate_length n _ (by omega) (by omega)
  rw [p.gate_frame] at bound ⊢
  have kept := p.keptPlaces_le
  exact ⟨h.limit, h.requests, by change _ + p.keptPlaces ≤ 64; dsimp only at bound ⊢; omega, h.building⟩

theorem gateAll (l : List Notice) : (p.gateAll l).Fits := by
  unfold DispatcherPort.gateAll
  induction l generalizing p with
  | nil => exact h
  | cons n l ih => exact ih (h.gate n)

theorem offer (r : Request) : (p.offer r).Fits := by
  unfold DispatcherPort.offer
  split
  next room =>
    refine ⟨h.limit, ?_, h.reports, h.building⟩
    rw [List.length_append]
    exact room
  next => exact ⟨h.limit, h.requests, h.reports, h.building⟩

theorem offerAll : p.offerAll.Fits := by
  have all (l : List Request) : ∀ q : DispatcherPort, q.Fits → (l.foldl DispatcherPort.offer q).Fits := by
    induction l with
    | nil => exact fun _ hq => hq
    | cons r l ih => exact fun q hq => ih _ (hq.offer r)
  exact all _ _ ⟨h.limit, h.requests, h.reports, h.building⟩

/-- With the service free no page is being built. -/
theorem not_building (free : p.service ≠ .pageBuild) : p.dump.isBuilding = false := by
  by_contra hb
  exact free (h.building (by simpa using hb))

/-- The request in service is answered, in the place kept for it. -/
theorem answer (r : Report) (kept : p.keptPlaces = 1) : DispatcherPort.Fits { p.post r with service := .free } := by
  have reports := h.reports
  refine ⟨h.limit, h.requests, ?_, fun hb => ?_⟩
  · change (p.reports ++ [r]).length + 0 ≤ 64
    rw [List.length_append]
    simp only [List.length_singleton]
    omega
  · refine absurd (h.building hb) fun page => ?_
    simp only [DispatcherPort.keptPlaces, page] at kept
    cases kept

end DispatcherPort.Fits

/-! ### The request that is served (R168, R169, R180) -/

theorem State.served_eq_some {s : State} {q : Request} : s.served = some q ↔
    s.port.service = .free ∧ s.port.requests.head? = some q ∧ s.loader.state ≠ .loading ∧
      s.port.dumpEndWaiting = false ∧ s.port.reports.length + s.port.placesFor q ≤ 64 := by
  unfold State.served
  split
  next r rest free hr =>
    have room (r : Request) : s.port.reports.length + s.port.placesFor r ≤ Config.reportPlaces ↔
        s.port.reports.length + s.port.placesFor r ≤ 64 := Iff.rfl
    simp only [free, hr, List.head?_cons, Option.some.injEq, true_and]
    constructor
    · intro h
      split at h
      next served =>
        cases h
        exact ⟨rfl, served⟩
      next => cases h
    · rintro ⟨rfl, served⟩
      exact if_pos served
  next h =>
    constructor
    · exact nofun
    · rintro ⟨free, hq, -⟩
      obtain ⟨rest, hr⟩ : ∃ rest, s.port.requests = q :: rest := by
        cases hr : s.port.requests with
        | nil => rw [hr] at hq; cases hq
        | cons r rest => rw [hr] at hq; cases hq; exact ⟨rest, rfl⟩
      exact absurd hr (h _ _ free)

theorem DispatcherPort.endDump_eq (p : DispatcherPort) (reason : DumpEndReason) : p.endDump reason = { p with
    reports := if p.dump.active then p.reports ++ [.dumpEnd reason] else p.reports, dump := .none } := by
  unfold DispatcherPort.endDump
  cases hd : p.dump with
  | none =>
    obtain ⟨_, _, _, _, _, _, _, _, _, _, _, _, _, _, _, _⟩ := p
    dsimp only at hd
    subst hd
    rfl
  | building src cur => rfl
  | opened src cur idle => rfl

theorem DispatcherPort.endDump_length (p : DispatcherPort) (reason : DumpEndReason) :
    (p.endDump reason).reports.length = p.reports.length + if p.dump.active then 1 else 0 := by
  rw [p.endDump_eq]
  cases p.dump.active <;> simp

theorem DispatcherPort.one_le_placesFor (p : DispatcherPort) (q : Request) : 1 ≤ p.placesFor q := by
  unfold DispatcherPort.placesFor
  repeat' split
  all_goals decide

/-- A service command answers, or keeps a place for the answer, in the room that was found for its request. -/
theorem DispatcherPort.Fits.served {p t : DispatcherPort} (h : p.Fits) {q : Request}
    (room : p.reports.length + p.placesFor q ≤ 64) (limit : t.limit = p.limit)
    (requests : t.requests = p.requests.drop 1) (reports : t.reports.length + t.keptPlaces ≤ p.reports.length + p.placesFor q)
    (building : t.dump.isBuilding = true → t.service = .pageBuild) : t.Fits := by
  refine ⟨limit ▸ h.limit, ?_, reports.trans room, building⟩
  rw [requests]
  exact (List.drop_sublist 1 _).length_le.trans h.requests

/-- The state in which a REJOIN is in service (R183, R199). -/
def State.rejoinBegun (s : State) : State :=
  let t := s.takeRequest
  { t with
    loader := { t.loader with rejoin := some { transmitterDone := false, tableDone := false }, listenEnd := none }
    tx := { t.tx with muteEnd := none }
    port := { t.port.endDump .rejoin with service := .rejoin } }

/-- What the service can do with a request that it takes. -/
inductive Served (s : State) (q : Request) : State → Prop
  | replied (r : Report) : Served s q (s.reply r)
  | viewed (f : ViewFilter) (w : Bool) (hq : q = .view f w) :
    Served s q (State.reply { s with port := { s.port.endDump .filterChanged with filter := f, watch := w } } .viewOk)
  | offered (src : DumpSource) (cur : Cursor) (hq : s.port.placesFor q = 2) : Served s q (s.offerPage src cur)
  | stopped : Served s q { s.takeRequest with port := s.takeRequest.port.endDump .stopped }
  | handed (origin point : Nat) (seen : Version) :
    Served s q { s.takeRequest with port := { s.takeRequest.port with service := .ownAck origin point seen } }
  | queued (r : Report) (a : AckEntry) : Served s q ((s.reply r).fillAckSlot a)
  | rejoins (hq : q = .rejoin) (hs : s.loader.state ≠ .halted) : Served s q s.rejoinBegun

/-- A command of the request service does nothing, or what it can do with the request that is served. -/
theorem service_served {i : Instr} (hb : commandBlock i = .service) (s : State) :
    effect i s = s ∨ ∃ q, s.served = some q ∧ Served s q (effect i s) := by
  cases i <;> cases hb
  case status =>
    simp only [effect, status]
    split
    next hq => exact .inr ⟨_, hq, .replied _⟩
    next => exact .inl rfl
  case view =>
    simp only [effect, view]
    split
    next f w hq =>
      split
      next => exact .inr ⟨_, hq, .replied _⟩
      next => exact .inr ⟨_, hq, .viewed f w rfl⟩
    next => exact .inl rfl
  case dump =>
    simp only [effect, dump]
    split
    next src hq =>
      split
      next => exact .inr ⟨_, hq, .replied _⟩
      next =>
        split
        next => exact .inr ⟨_, hq, .offered src _ rfl⟩
        next => exact .inr ⟨_, hq, .replied _⟩
    next => exact .inl rfl
  case next =>
    simp only [effect, next]
    split
    next hq =>
      split
      next => exact .inr ⟨_, hq, .replied _⟩
      next =>
        split
        next src cur _ _ => exact .inr ⟨_, hq, .offered src cur rfl⟩
        next => exact .inr ⟨_, hq, .replied _⟩
        next => exact .inl rfl
    next => exact .inl rfl
  case stop =>
    simp only [effect, stop]
    split
    next hq =>
      split
      next => exact .inr ⟨_, hq, .replied _⟩
      next =>
        split
        next => exact .inr ⟨_, hq, .stopped⟩
        next => exact .inr ⟨_, hq, .replied _⟩
        next => exact .inl rfl
    next => exact .inl rfl
  case ack =>
    simp only [effect, ack]
    split
    next o p seen hq =>
      split
      next => exact .inr ⟨_, hq, .replied _⟩
      next =>
        split
        next => exact .inr ⟨_, hq, .handed o p seen⟩
        next => exact .inr ⟨_, hq, .queued _ _⟩
    next => exact .inl rfl
  case rejoin =>
    simp only [effect, rejoin]
    split
    next hq =>
      split
      next => exact .inr ⟨_, hq, .replied _⟩
      next running => exact .inr ⟨_, hq, .rejoins rfl running⟩
    next => exact .inl rfl
  case malformedRequest =>
    simp only [effect, malformedRequest]
    split
    next hq => exact .inr ⟨_, hq, .replied _⟩
    next => exact .inl rfl

theorem State.fillAckSlot_port (s : State) (a : AckEntry) : (s.fillAckSlot a).port = s.port := by
  rw [State.fillAckSlot, State.wake_port]

theorem State.fillAckSlot_loader (s : State) (a : AckEntry) : (s.fillAckSlot a).loader = s.loader := by
  rw [State.fillAckSlot, State.wake_loader]

theorem Served.portSafe {s t : State} {q : Request} (h : Served s q t) (hq : s.served = some q) (hs : PortSafe s) :
    PortSafe t := by
  obtain ⟨fits, rejoin⟩ := (portSafe_iff s).1 hs
  obtain ⟨free, -, -, -, room⟩ := State.served_eq_some.1 hq
  have quiet : ¬s.loader.rejoin.isSome = true := fun h => by
    have service := rejoin h
    rw [free] at service
    cases service
  have idle : s.port.dump.isBuilding = false := fits.not_building (by rw [free]; exact nofun)
  have one := s.port.one_le_placesFor q
  have replied (r : Report) : (s.reply r).port.Fits := by
    refine fits.served room rfl rfl ?_ fun hb => ?_
    · rw [DispatcherPort.keptPlaces_of_free (by rw [State.reply_port]; exact free), State.reply_port,
        List.length_append]
      exact Nat.add_le_add_left one _
    · rw [State.reply_port, idle] at hb
      cases hb
  rw [portSafe_iff]
  cases h with
  | replied r => exact ⟨replied r, fun h => absurd h quiet⟩
  | viewed f w hview =>
    subst hview
    have ended := s.port.endDump_length .filterChanged
    have frame := s.port.endDump_eq .filterChanged
    refine ⟨fits.served room ?_ ?_ ?_ fun hb => ?_, fun h => absurd h quiet⟩
    · rw [State.reply_port, frame]
    · rw [State.reply_port, frame]
    · rw [DispatcherPort.keptPlaces_of_free (by rw [State.reply_port, frame]; exact free), State.reply_port,
        List.length_append]
      dsimp only
      rw [ended]
      simp only [DispatcherPort.placesFor]
      by_cases active : s.port.dump.active = true <;> simp [active]
    · rw [State.reply_port, frame] at hb
      cases hb
  | offered src cur two =>
    refine ⟨fits.served room rfl rfl ?_ fun _ => rfl, fun h => absurd h quiet⟩
    rw [two]
    exact le_rfl
  | stopped =>
    have ended := s.takeRequest.port.endDump_length .stopped
    have frame := s.takeRequest.port.endDump_eq .stopped
    refine ⟨fits.served room ?_ ?_ ?_ fun hb => ?_, fun h => absurd h quiet⟩
    all_goals dsimp only
    · rw [frame]; rfl
    · rw [frame]; rfl
    · rw [DispatcherPort.keptPlaces_of_free (by rw [frame]; exact free), ended]
      have : (if s.takeRequest.port.dump.active then 1 else 0) ≤ 1 := by split <;> decide
      exact Nat.add_le_add_left (this.trans one) _
    · rw [frame] at hb
      cases hb
  | handed o p seen =>
    refine ⟨fits.served room rfl rfl ?_ fun hb => ?_, fun h => absurd h quiet⟩
    · exact Nat.add_le_add_left one _
    · exact absurd hb (by rw [State.takeRequest_port]; simp [idle])
  | queued r a =>
    rw [State.fillAckSlot_port, State.fillAckSlot_loader]
    exact ⟨replied r, fun h => absurd h quiet⟩
  | rejoins hrejoin =>
    subst hrejoin
    have ended := s.takeRequest.port.endDump_length .rejoin
    have frame := s.takeRequest.port.endDump_eq .rejoin
    refine ⟨fits.served room ?_ ?_ ?_ fun hb => ?_, fun _ => rfl⟩
    all_goals dsimp only [State.rejoinBegun]
    · rw [frame]; rfl
    · rw [frame]; rfl
    · change (s.takeRequest.port.endDump .rejoin).reports.length + 1 ≤ _
      rw [ended]
      simp only [DispatcherPort.placesFor, State.takeRequest_port]
      by_cases active : s.port.dump.active = true <;> simp [active]
    · dsimp only [State.rejoinBegun] at hb
      rw [frame] at hb
      cases hb

end Sys2Proof.Machine

/-!
PROOFS. The bounds of the port's queues through the claims, the line, the reports out and the startup (O53).
-/
namespace Sys2Proof.Machine

/-! ### The profile's notice limit (R187, R190) -/

/-- A check with a code of its own lets no error pass unless it passes itself. -/
theorem firstError_cons_eq_none {ok : Bool} {e : ProfileError} (he : e ≠ .none) (l : List (Bool × ProfileError)) :
    firstError ((ok, e) :: l) = .none ↔ ok = true ∧ firstError l = .none := by
  cases ok <;> simp [firstError, he]

/-- The notice limit of a profile that passes its checks is at most 60. -/
theorem noticeLimit_le {crc : Word16} {image : List Byte} (h : firstError (imageChecks crc image) = .none) :
    (readProfile image).noticeLimit ≤ 60 := by
  simp only [imageChecks, List.cons_append, ne_eq, reduceCtorEq, not_false_eq_true, firstError_cons_eq_none] at h
  obtain ⟨-, -, -, -, -, -, -, limit, -⟩ := h
  simp only [within, Bool.and_eq_true, decide_eq_true_eq] at limit
  exact limit.2

/-! ### The blocks that write the port -/

theorem PortSafe.of_frame {s t : State} (h : PortSafe s) (port : t.port = s.port) (loader : t.loader.rejoin = s.loader.rejoin) :
    PortSafe t := by
  rw [portSafe_iff] at *
  rwa [port, loader]

/-- A failed attempt hands the gate one notice at most (R146). -/
theorem Failed.port {s t : State} (h : Failed s t) : t.port = s.port ∨ ∃ n, t.port = s.port.gate n := by
  cases h with
  | rested => exact .inl rfl
  | muted c => exact .inl rfl
  | ended => exact .inl (by rw [State.endSend_frame]; rfl)
  | retried c => exact .inl rfl
  | abandoned c =>
    rw [State.abandon_eq, State.endSend_frame]
    cases c.item with
    | change k => exact .inl rfl
    | refresh k => exact .inl rfl
    | ack =>
      simp only [State.countAbandoned, State.abandonItem]
      split
      next => exact .inr ⟨_, rfl⟩
      next => exact .inl rfl

theorem Accessed.port {s t : State} (h : Accessed s t) : t.port = s.port := by
  cases h with
  | resumed c f => rfl
  | ended => rw [State.endSend_frame]
  | rested => rfl
  | begun i f => rw [State.takeRefresh_eq]; rfl

theorem LineMove.portSafe {s t : State} (h : LineMove s t) (hs : PortSafe s) : PortSafe t := by
  have rejoin : t.loader.rejoin = s.loader.rejoin := by rw [h.frame.eq]
  cases h with
  | receiver _ frame => exact hs.of_frame (by rw [frame]) rejoin
  | turn => exact hs.of_frame rfl rejoin
  | clash => exact hs.of_frame rfl rejoin
  | arrival => exact hs.of_frame rfl rejoin
  | failure =>
    obtain same | ⟨n, gated⟩ := s.attemptFail_failed.port
    · exact hs.of_frame same rejoin
    · obtain ⟨fits, service⟩ := (portSafe_iff s).1 hs
      rw [portSafe_iff, gated, rejoin]
      refine ⟨fits.gate n, fun h => ?_⟩
      rw [DispatcherPort.gate_frame]
      exact service h
  | success a => exact hs.of_frame (by rw [State.attemptSucceed, State.endSend_frame]) rejoin
  | echo => exact hs.of_frame rfl rejoin
  | access => exact hs.of_frame s.access_accessed.port rejoin

theorem DispatcherPort.gateAll_service (p : DispatcherPort) (l : List Notice) : (p.gateAll l).service = p.service := by
  rw [DispatcherPort.gateAll_frame]

theorem ClaimMove.portSafe {s t : State} (h : ClaimMove s t) (hs : PortSafe s) : PortSafe t := by
  obtain ⟨fits, service⟩ := (portSafe_iff s).1 hs
  cases h with
  | none => exact hs
  | closed _ u w extra frame =>
    have port : u.port = s.port := by rw [frame.eq]
    have rejoin : u.loader.rejoin = s.loader.rejoin := by rw [frame.eq]
    rw [portSafe_iff, State.closeClaim_port, State.closeClaim_loader, port, rejoin]
    exact ⟨fits.gateAll _, fun h => (DispatcherPort.gateAll_service ..).trans (service h)⟩
  | page _ building items p frame closed reports =>
    have page : s.port.service = .pageBuild := fits.building building
    have after := fits.gateAll (((Work.begin s.table).close s).notices ++ [])
    have kept : (s.port.gateAll (((Work.begin s.table).close s).notices ++ [])).keptPlaces = 2 := by
      simp only [DispatcherPort.keptPlaces, DispatcherPort.gateAll_service, page]
    rw [State.closeClaim_port] at frame reports
    have bound := after.reports
    rw [portSafe_iff]
    refine ⟨⟨?_, ?_, ?_, fun hb => ?_⟩, fun h => ?_⟩
    all_goals dsimp only
    · rw [frame]; exact after.limit
    · rw [frame]; exact after.requests
    · have free : p.keptPlaces = 0 := DispatcherPort.keptPlaces_of_free (by rw [frame])
      omega
    · rw [closed] at hb
      cases hb
    · have other := service h
      rw [page] at other
      cases other

theorem origin_portSafe {i : Instr} (hb : commandBlock i = .origin) {s : State} (hs : PortSafe s) :
    PortSafe (effect i s) := by
  by_cases hi : i = .ownAckDecision
  · subst hi
    obtain h | ⟨o, k, seen, t, r, serving, frame, h⟩ := ownAckDecision_cases s
    · simp only [effect]
      rwa [h]
    · obtain ⟨fits, service⟩ := (portSafe_iff s).1 hs
      have port : t.port = s.port := by rw [frame.eq]
      simp only [effect]
      rw [h, State.answerAck, portSafe_iff, port]
      refine ⟨fits.answer r (by simp only [DispatcherPort.keptPlaces, serving]), fun h => ?_⟩
      have other := service (by rw [← frame.loader]; exact h)
      rw [serving] at other
      cases other
  · have frame := originFrame_of_block hb hi s
    exact hs.of_frame (by rw [frame.eq]) (by rw [frame.eq])

theorem assembler_portSafe {i : Instr} (hb : commandBlock i = .assembler) {s : State} (hs : PortSafe s) :
    PortSafe (effect i s) := by
  obtain ⟨fits, service⟩ := (portSafe_iff s).1 hs
  have requests : (effect i s).port.requests.length ≤ 8 := by
    cases i <;> cases hb
    case requestCharacterTaken char stopFound =>
      simp only [effect, requestCharacterTaken, DispatcherPort.takeChar, DispatcherPort.gather,
        DispatcherPort.settleGap]
      repeat' split
      all_goals exact fits.requests
    case requestComplete =>
      simp only [effect, requestComplete]
      split
      · exact fits.requests
      · refine (DispatcherPort.Fits.offer ?_ _).requests
        exact ⟨fits.limit, fits.requests, fits.reports, fits.building⟩
    case requestGapTimeout =>
      simp only [effect, requestGapTimeout]
      repeat' split
      · have all := fits.offerAll
        refine (DispatcherPort.Fits.offer ?_ _).requests
        exact ⟨all.limit, all.requests, all.reports, all.building⟩
      all_goals exact fits.requests
  rw [(assembler_frame hb s).eq, portSafe_iff]
  exact ⟨⟨fits.limit, requests, fits.reports, fits.building⟩, service⟩

/-! ### The reports out (R170, R172, R180) -/

theorem DispatcherPort.pageDelivered_eq (p : DispatcherPort) (now : Nat) (r : Report) :
    p.pageDelivered now r = { p with dump := (p.pageDelivered now r).dump } := by
  unfold DispatcherPort.pageDelivered
  repeat' split
  all_goals rfl

theorem DispatcherPort.pageDelivered_building {p : DispatcherPort} {now : Nat} {r : Report}
    (h : (p.pageDelivered now r).dump.isBuilding = true) : p.dump.isBuilding = true := by
  unfold DispatcherPort.pageDelivered at h
  split at h
  next hd =>
    split at h
    · cases h
    · exact h
  next => exact h

theorem DispatcherPort.postWaiting_eq (p : DispatcherPort) : p.postWaiting = { p with
    reports := p.postWaiting.reports, dumpEndWaiting := p.postWaiting.dumpEndWaiting } := by
  unfold DispatcherPort.postWaiting
  split <;> rfl

theorem DispatcherPort.postWaiting_length (p : DispatcherPort) :
    p.postWaiting.reports.length ≤ p.reports.length + 1 := by
  unfold DispatcherPort.postWaiting
  split <;> simp

theorem DispatcherPort.Fits.postResync {p : DispatcherPort} (h : p.Fits) : p.postResync.Fits := by
  unfold DispatcherPort.postResync
  split
  next posts =>
    have below : p.reports.length < p.limit := by
      rw [Bool.and_eq_true, decide_eq_true_eq] at posts
      exact posts.2
    have kept := p.keptPlaces_le
    have limit := h.limit
    refine ⟨h.limit, h.requests, ?_, h.building⟩
    change (p.reports ++ [Report.resync]).length + p.keptPlaces ≤ 64
    rw [List.length_append, List.length_singleton]
    omega
  next => exact h

/-- A report's departure makes the room that a waiting DUMP-END takes. -/
theorem DispatcherPort.Fits.deliver {p : DispatcherPort} (h : p.Fits) {r : Report} {rest : List Report}
    (hr : p.reports = r :: rest) (now : Nat) :
    ((({ p with reports := rest, sent := 0 } : DispatcherPort).pageDelivered now r).postWaiting).postResync.Fits := by
  refine DispatcherPort.Fits.postResync ?_
  have frame := ({ p with reports := rest, sent := 0 } : DispatcherPort).pageDelivered_eq now r
  have building := @DispatcherPort.pageDelivered_building { p with reports := rest, sent := 0 } now r
  generalize ({ p with reports := rest, sent := 0 } : DispatcherPort).pageDelivered now r = q at frame building
  have room : q.reports.length + 1 = p.reports.length := by rw [frame, hr]; rfl
  have more := q.postWaiting_length
  have frame' := q.postWaiting_eq
  refine h.of_frame ?_ ?_ ?_ (more.trans room.le) fun hb => building ?_
  · rw [frame', frame]
  · rw [frame', frame]
    exact h.requests
  · rw [frame', frame]
  · rw [frame'] at hb
    exact hb

theorem output_portSafe {i : Instr} (hb : commandBlock i = .output) {s : State} (hs : PortSafe s) :
    PortSafe (effect i s) := by
  obtain ⟨fits, service⟩ := (portSafe_iff s).1 hs
  cases i <;> cases hb
  case readyAsserted =>
    simp only [effect, readyAsserted]
    repeat' split
    · exact hs
    · exact (portSafe_iff _).2 ⟨⟨fits.limit, fits.requests, fits.reports, fits.building⟩, service⟩
    · exact hs
  case reportDelivered =>
    simp only [effect, reportDelivered]
    split
    next => exact hs
    next r rest hr =>
      split
      · refine (portSafe_iff _).2 ⟨fits.deliver hr s.now, fun h => ?_⟩
        have resync (p : DispatcherPort) : p.postResync.service = p.service := by
          unfold DispatcherPort.postResync
          split <;> rfl
        dsimp only
        rw [resync, DispatcherPort.postWaiting_eq, DispatcherPort.pageDelivered_eq]
        exact service h
      · exact hs
  case dumpIdleTimeout =>
    simp only [effect, dumpIdleTimeout]
    split
    next src cur idle hd =>
      split
      · split
        next room =>
          refine (portSafe_iff _).2 ⟨⟨?_, ?_, ?_, ?_⟩, ?_⟩
          all_goals dsimp only
          all_goals rw [DispatcherPort.endDump_eq]
          · exact fits.limit
          · exact fits.requests
          · have active : s.port.dump.active = true := by rw [hd]; rfl
            change (if s.port.dump.active then s.port.reports ++ [Report.dumpEnd .timedOut]
              else s.port.reports).length + s.port.keptPlaces ≤ 64
            rw [if_pos active, List.length_append, List.length_singleton, Nat.add_right_comm]
            exact room
          · exact nofun
          · exact service
        next =>
          exact (portSafe_iff _).2 ⟨fits.of_frame rfl fits.requests rfl le_rfl nofun, service⟩
      · exact hs
    next => exact hs

/-! ### The startup -/

theorem DumpEngine.discardBuild_not_building (d : DumpEngine) : d.discardBuild.isBuilding = false := by
  cases d <;> rfl

theorem startup_portSafe {i : Instr} (hb : commandBlock i = .startup) {s : State} (hs : PortSafe s) :
    PortSafe (effect i s) := by
  obtain ⟨fits, service⟩ := (portSafe_iff s).1 hs
  cases i <;> cases hb
  case reset => exact portSafe_reset.of_frame rfl rfl
  case profileHeaderTaken header =>
    obtain h | ⟨-, ⟨crc, h⟩ | ⟨e, h⟩⟩ := profileHeaderTaken_cases header s
    all_goals
      simp only [effect]
      rw [h]
      exact hs.of_frame rfl rfl
  case profileReadDone image duskOn levels =>
    obtain h | ⟨loading, ⟨crc, ok, h⟩ | ⟨e, n, h⟩⟩ := profileReadDone_cases image duskOn levels s
    all_goals
      simp only [effect]
      rw [h]
    · exact hs
    · exact (portSafe_iff _).2 ⟨⟨noticeLimit_le ok, fits.requests, fits.reports, fits.building⟩, service⟩
    · exact hs.of_frame rfl rfl
  case transmitterRejoinPart =>
    obtain h | ⟨d, hr, -, h⟩ := transmitterRejoinPart_cases s
    all_goals
      simp only [effect]
      rw [h]
    · exact hs
    · exact (portSafe_iff _).2 ⟨fits, fun _ => service (by rw [hr]; rfl)⟩
  case tableEngineRejoinPart =>
    obtain h | ⟨d, signals, hr, h⟩ := tableEngineRejoinPart_cases s
    all_goals
      simp only [effect]
      rw [h]
    · exact hs
    · refine (portSafe_iff _).2 ⟨DispatcherPort.Fits.gateAll ?_ _, fun _ => ?_⟩
      · refine fits.of_frame rfl fits.requests rfl le_rfl fun hb => ?_
        rw [DumpEngine.discardBuild_not_building] at hb
        cases hb
      · exact (DispatcherPort.gateAll_service ..).trans (service (by rw [hr]; rfl))
  case rejoinComplete =>
    obtain h | ⟨hr, -, h⟩ := rejoinComplete_cases s
    all_goals
      simp only [effect]
      rw [h]
    · exact hs
    · have serving : s.port.service = .rejoin := service (by rw [hr]; rfl)
      refine (portSafe_iff _).2 ⟨fits.answer _ ?_, nofun⟩
      simp only [DispatcherPort.keptPlaces, serving]
  case listeningTimerEnd =>
    obtain h | ⟨-, -, h⟩ := listeningTimerEnd_cases s
    all_goals
      simp only [effect]
      rw [h]
    · exact hs
    · exact hs.of_frame (by rw [State.wake_port]) (by rw [State.wake_loader])

/-! ### Every step -/

theorem effect_portSafe (i : Instr) (s : State) (ok : i.wellFormed = true) (hs : PortSafe s) :
    PortSafe (effect i s) := by
  cases hb : commandBlock i with
  | field => rw [(field_frame hb ok s).eq]; exact hs.of_frame rfl rfl
  | origin => exact origin_portSafe hb hs
  | line => exact line_keeps hb (P := PortSafe) (fun _ _ _ hs move => move.portSafe hs) hs
  | timers => rw [(timers_frame hb s).eq]; exact hs.of_frame rfl rfl
  | deadlines => rw [(deadlines_frame hb s).eq]; exact hs.of_frame rfl rfl
  | claims => exact (claim_move s hb).portSafe hs
  | assembler => exact assembler_portSafe hb hs
  | service =>
    obtain h | ⟨q, hq, served⟩ := service_served hb s
    · rwa [h]
    · exact served.portSafe hq hs
  | output => exact output_portSafe hb hs
  | startup => exact startup_portSafe hb hs

/-- Settles O53: whatever posts a report has found the room, or leaves the place that was kept for it. -/
theorem stepsKeepThePortBounds : Obligations.StepsKeepThePortBounds := fun _ _ hs h =>
  step_keeps (P := PortSafe) (fun _ _ h => h) (fun _ h => h) effect_portSafe hs h

end Sys2Proof.Machine

/-!
PROOFS. What every step keeps of the station state, the transmitter's rest and the stillness of a REJOIN (O52).
-/
namespace Sys2Proof.Machine

/-! ### The loader and the quiet of the transmitter -/

/-- A profile is in force exactly outside LOADING and HALTED, and without one nothing is held or queued. -/
theorem LoaderSafe.running {s : State} (h : LoaderSafe s) : s.running = true ↔
    s.loader.state ≠ .loading ∧ s.loader.state ≠ .halted := by
  obtain ⟨profile, -⟩ := h
  rw [State.running, Option.isSome_iff_ne_none, ne_eq, profile, not_or]

theorem LoaderSafe.queues {s : State} (h : LoaderSafe s) (hp : s.loader.profile = none) : s.queues = false := by
  have idle := h.1.1 hp
  obtain idle | idle := idle <;> simp [State.queues, idle]

/-- A station in force keeps its tables as it likes. -/
theorem LoaderSafe.of_running {s : State} (profile : s.loader.profile ≠ none)
    (state : s.loader.state ≠ .loading ∧ s.loader.state ≠ .halted) : LoaderSafe s :=
  ⟨⟨fun h => absurd h profile, fun h => h.elim (absurd · state.1) (absurd · state.2)⟩, fun h => absurd h profile⟩

/-- The loader's state and the quiet of the transmitter, together. -/
def State.StillKept (s : State) : Prop := LoaderSafe s ∧ QuietSafe s

theorem Safe.stillKept {s : State} (h : Safe s) : s.StillKept := by
  obtain ⟨loader, -, -, -, -, -, -, quiet, -⟩ := h
  exact ⟨loader, quiet⟩

/-- What a state that differs elsewhere keeps. -/
theorem State.StillKept.of_frame {s t : State} (h : s.StillKept) (loader : t.loader = s.loader)
    (table : t.table.cft = s.table.cft ∧ t.table.groups = s.table.groups) (entries : t.roster.entries = s.roster.entries)
    (tx : t.tx.state = s.tx.state ∧ t.tx.muteEnd = s.tx.muteEnd)
    (pending : t.origin.changeQueue = s.origin.changeQueue ∧ t.origin.ackSlot = s.origin.ackSlot ∧
      t.origin.refreshDue = s.origin.refreshDue ∧ t.origin.stepDue = s.origin.stepDue) : t.StillKept := by
  obtain ⟨cft, groups⟩ := table
  obtain ⟨state, mute⟩ := tx
  obtain ⟨queue, ack, refresh, step⟩ := pending
  unfold State.StillKept LoaderSafe QuietSafe at *
  rwa [loader, cft, groups, entries, state, mute, queue, ack, refresh, step]

/-! ### The Origin Unit -/

theorem OriginFrame.stillKept {s t : State} (frame : OriginFrame s t) (h : s.StillKept) : t.StillKept := by
  obtain ⟨⟨profile, empty⟩, rests, still⟩ := h
  have queues := LoaderSafe.queues ⟨profile, empty⟩
  refine ⟨⟨by rw [frame.loader]; exact profile, fun hp => ?_⟩, fun hs => ?_, fun r hr => ?_⟩
  · rw [frame.loader] at hp ⊢
    obtain ⟨rejoin, cft, groups, queue, entries⟩ := empty hp
    refine ⟨rejoin, ?_, ?_, frame.queue (queues hp) queue, ?_⟩
    all_goals rw [frame.eq]
    · exact cft
    · exact groups
    · exact entries
  · rw [frame.loader] at hs
    exact frame.rests hs (rests hs)
  · rw [frame.loader] at hr ⊢
    obtain ⟨listen, mute, calm⟩ := still r hr
    refine ⟨listen, by rw [frame.eq]; exact mute, fun done => frame.calm ?_ (calm done)⟩
    rw [State.rejoining, Option.mem_def.1 hr]
    rfl

theorem origin_stillKept {i : Instr} (hb : commandBlock i = .origin) {s : State} (h : s.StillKept) :
    (effect i s).StillKept := by
  by_cases hi : i = .ownAckDecision
  · subst hi
    obtain e | ⟨o, k, seen, t, r, -, frame, e⟩ := ownAckDecision_cases s
    all_goals
      simp only [effect]
      rw [e]
    · exact h
    · exact (frame.stillKept h).of_frame rfl ⟨rfl, rfl⟩ rfl ⟨rfl, rfl⟩ ⟨rfl, rfl, rfl, rfl⟩
  · exact (originFrame_of_block hb hi s).stillKept h

/-! ### The line -/

/-- While a profile is in force: outside IN-STEP the transmitter rests, and a REJOIN is still. -/
structure State.LineStill (s : State) : Prop where
  profile : s.loader.profile ≠ none
  state : s.loader.state ≠ .loading ∧ s.loader.state ≠ .halted
  quiet : QuietSafe s

theorem State.LineStill.stillKept {s : State} (h : s.LineStill) : s.StillKept :=
  ⟨.of_running h.profile h.state, h.quiet⟩

theorem State.StillKept.lineStill {s : State} (h : s.StillKept) (run : s.running = true) : s.LineStill :=
  ⟨Option.isSome_iff_ne_none.1 run, h.1.running.1 run, h.2⟩

namespace State.LineStill

variable {s : State} (h : s.LineStill)
include h

/-- Whatever a transmitter that does not rest does happens IN-STEP, and no REJOIN's part of the transmitter is done. -/
theorem awake (busy : s.tx.state ≠ .idle) :
    s.loader.state = .inStep ∧ ∀ r ∈ s.loader.rejoin, s.loader.listenEnd = none ∧ s.tx.muteEnd = none ∧
      r.transmitterDone = false := by
  obtain ⟨rests, still⟩ := h.quiet
  refine ⟨Classical.byContradiction fun other => busy (rests other), fun r hr => ?_⟩
  obtain ⟨listen, mute, calm⟩ := still r hr
  refine ⟨listen, mute, ?_⟩
  by_contra done
  exact busy (calm (by simpa using done)).1

/-- What a move IN-STEP of a transmitter that does not rest keeps. -/
theorem of_awake {t : State} (busy : s.tx.state ≠ .idle) (loader : t.loader = s.loader)
    (mute : t.tx.muteEnd = s.tx.muteEnd) : t.LineStill := by
  obtain ⟨inStep, still⟩ := h.awake busy
  refine ⟨by rw [loader]; exact h.profile, by rw [loader]; exact h.state, fun other => ?_, fun r hr => ?_⟩
  · rw [loader] at other
    exact absurd inStep other
  · rw [loader] at hr ⊢
    obtain ⟨listen, noMute, done⟩ := still r hr
    exact ⟨listen, mute.trans noMute, fun d => by rw [done] at d; cases d⟩

end State.LineStill

theorem Failed.lineStill {s t : State} (h : Failed s t) (busy : s.tx.state ≠ .idle) (hs : s.LineStill) :
    t.LineStill := by
  cases h with
  | rested => exact hs.of_awake busy rfl rfl
  | ended => exact hs.of_awake busy (by rw [State.endSend_frame]; rfl) (by rw [State.endSend_frame]; rfl)
  | retried c => exact hs.of_awake busy rfl rfl
  | abandoned c =>
    have frame := (State.abandonItem_lineFrame s.failCounted c.item).eq
    refine hs.of_awake busy ?_ ?_
    all_goals rw [State.abandon_eq, State.endSend_frame]
    · rw [State.countAbandoned]
      cases c.item with
      | change k => rfl
      | refresh k => rfl
      | ack =>
        simp only [State.abandonItem]
        split <;> rfl
    · simp only [State.countAbandoned, State.abandonItem_tx]
      rfl
  | muted c hr =>
    refine ⟨hs.profile, ⟨nofun, nofun⟩, fun _ => rfl, fun r hmem => ?_⟩
    have none : s.loader.rejoin = none := by simpa [State.rejoining] using hr
    have hmem' : r ∈ s.loader.rejoin := hmem
    rw [none] at hmem'
    cases hmem'

theorem Accessed.muteEnd {s t : State} (h : Accessed s t) : t.tx.muteEnd = s.tx.muteEnd := by
  cases h with
  | resumed c f => rfl
  | ended => rw [State.endSend_frame]
  | rested => rfl
  | begun i f => rw [State.takeRefresh_eq]; rfl

theorem Accessed.loader {s t : State} (h : Accessed s t) : t.loader = s.loader := by
  cases h with
  | resumed c f => rfl
  | ended => rw [State.endSend_frame]
  | rested => rfl
  | begun i f => rw [State.takeRefresh_eq]; rfl

theorem State.mayAccess_iff (s : State) : s.mayAccess = true ↔ s.loader.state = .inStep ∧ s.loader.rejoin = none ∧
    s.tx.state = .waiting ∧ s.rx.lastHeard + s.requiredQuiet ≤ s.rx.clock ∧ s.outputFree = true := by
  simp [State.mayAccess, State.rejoining, and_assoc]

theorem LineMove.lineStill {s t : State} (h : LineMove s t) (hs : s.LineStill) : t.LineStill := by
  have same {t : State} (loader : t.loader = s.loader) (tx : t.tx.state = s.tx.state ∧ t.tx.muteEnd = s.tx.muteEnd)
      (pending : t.origin.changeQueue = s.origin.changeQueue ∧ t.origin.ackSlot = s.origin.ackSlot ∧
        t.origin.refreshDue = s.origin.refreshDue ∧ t.origin.stepDue = s.origin.stepDue) : t.LineStill := by
    obtain ⟨state, mute⟩ := tx
    obtain ⟨queue, ack, refresh, step⟩ := pending
    obtain ⟨profile, running, quiet⟩ := hs
    refine ⟨by rwa [loader], by rwa [loader], ?_⟩
    unfold QuietSafe at *
    rwa [loader, state, mute, queue, ack, refresh, step]
  have sending {a : Attempt} (ha : s.tx.state = .sending a) : s.tx.state ≠ .idle := by rw [ha]; exact nofun
  cases h with
  | receiver _ frame =>
    rw [frame]
    exact same rfl ⟨rfl, rfl⟩ ⟨rfl, rfl, rfl, rfl⟩
  | turn => exact same rfl ⟨rfl, rfl⟩ ⟨rfl, rfl, rfl, rfl⟩
  | clash => exact same rfl ⟨rfl, rfl⟩ ⟨rfl, rfl, rfl, rfl⟩
  | arrival => exact same rfl ⟨rfl, rfl⟩ ⟨rfl, rfl, rfl, rfl⟩
  | failure busy =>
    refine s.attemptFail_failed.lineStill (fun idle => ?_) hs
    rw [idle] at busy
    cases busy
  | success a ha =>
    refine hs.of_awake (sending ha) ?_ ?_
    all_goals
      rw [State.attemptSucceed, State.endSend_frame]
  | echo a b ha => exact hs.of_awake (sending ha) rfl rfl
  | access may =>
    obtain ⟨-, -, waiting, -⟩ := s.mayAccess_iff.1 may
    exact hs.of_awake (by rw [waiting]; exact nofun) s.access_accessed.loader s.access_accessed.muteEnd

theorem line_stillKept {i : Instr} (hb : commandBlock i = .line) {s : State} (hs : s.StillKept) :
    (effect i s).StillKept :=
  line_keeps hb (P := State.StillKept) (fun _ _ run hs move => (move.lineStill (hs.lineStill run)).stillKept) hs

/-! ### The timers, the deadlines and the claims -/

theorem timers_stillKept {i : Instr} (hb : commandBlock i = .timers) {s : State} (hs : s.StillKept) :
    (effect i s).StillKept := by
  cases i <;> cases hb
  case clashTimerEnd =>
    simp only [effect, clashTimerEnd]
    split <;> exact hs.of_frame rfl ⟨rfl, rfl⟩ rfl ⟨rfl, rfl⟩ ⟨rfl, rfl, rfl, rfl⟩
  case lineMuteClearTimerEnd =>
    simp only [effect, lineMuteClearTimerEnd]
    split <;> exact hs.of_frame rfl ⟨rfl, rfl⟩ rfl ⟨rfl, rfl⟩ ⟨rfl, rfl, rfl, rfl⟩
  case muteEnd =>
    simp only [effect]
    obtain h | ⟨mute, ⟨e, timer, -⟩, h⟩ := muteEnd_cases s
    all_goals rw [h]
    · exact hs
    · have profile : s.loader.profile ≠ none := fun none => by
        obtain loading | halted := hs.1.1.1 none
        · rw [mute] at loading; cases loading
        · rw [mute] at halted; cases halted
      refine ⟨.of_running ?_ ?_, fun other => ?_, fun r hr => ?_⟩
      · rw [State.wake_loader]
        exact profile
      · rw [State.wake_loader]
        exact ⟨nofun, nofun⟩
      · rw [State.wake_loader] at other
        exact absurd rfl other
      · rw [State.wake_loader] at hr
        obtain ⟨-, still⟩ := hs.2
        obtain ⟨-, stopped, -⟩ := still r hr
        rw [stopped] at timer
        cases timer

theorem deadlines_stillKept {i : Instr} (hb : commandBlock i = .deadlines) {s : State} (hs : s.StillKept) :
    (effect i s).StillKept := by
  have entries : s.roster.entries = [] → (effect i s).roster.entries = [] := by
    intro none
    cases i <;> cases hb
    case silenceDeadline n =>
      have absent : s.roster.find n = Option.none := by rw [RosterUnit.find, none]; rfl
      simpa only [effect, silenceDeadline, absent] using none
    all_goals
      simp only [effect, lingerDeadlineDue, graceDeadlineDue, State.addTimer]
      repeat' split
      all_goals exact none
  obtain ⟨⟨profile, empty⟩, quiet⟩ := hs
  rw [(deadlines_frame hb s).eq]
  refine ⟨⟨profile, fun hp => ?_⟩, quiet⟩
  obtain ⟨rejoin, cft, groups, queue, peers⟩ := empty hp
  exact ⟨rejoin, cft, groups, queue, entries peers⟩

theorem ClaimMove.stillKept {s t : State} (h : ClaimMove s t) (hs : s.StillKept) : t.StillKept := by
  cases h with
  | none => exact hs
  | closed run u w extra frame =>
    have still := hs.lineStill run
    have loader : u.loader = s.loader := by rw [frame.eq]
    have tx : u.tx = s.tx := by rw [frame.eq]
    obtain ⟨rests, inRejoin⟩ := still.quiet
    refine ⟨.of_running ?_ ?_, ?_, ?_⟩
    · rw [State.closeClaim_loader, loader]
      exact still.profile
    · rw [State.closeClaim_loader, loader]
      exact still.state
    · rw [State.closeClaim_loader, State.closeClaim_tx, loader, tx]
      exact rests
    · rw [State.closeClaim_loader, State.closeClaim_tx, State.closeClaim_origin, loader, tx, frame.eq]
      exact inRejoin
  | page run _ items p =>
    have still := hs.lineStill run
    exact ⟨.of_running still.profile still.state, still.quiet⟩

/-! ### The request service -/

theorem Served.stillKept {s t : State} {q : Request} (h : Served s q t) (hq : s.served = some q) (hp : PortSafe s)
    (hs : s.StillKept) : t.StillKept := by
  obtain ⟨free, -, notLoading, -, -⟩ := State.served_eq_some.1 hq
  have rejoin : s.loader.rejoin = none := by
    obtain ⟨-, service⟩ := (portSafe_iff s).1 hp
    by_contra some
    have serving := service (Option.isSome_iff_ne_none.2 some)
    rw [free] at serving
    cases serving
  have same {t : State} (loader : t.loader = s.loader) (table : t.table = s.table) (roster : t.roster = s.roster)
      (tx : t.tx = s.tx) (origin : t.origin = s.origin) : t.StillKept :=
    hs.of_frame loader ⟨by rw [table], by rw [table]⟩ (by rw [roster]) ⟨by rw [tx], by rw [tx]⟩
      ⟨by rw [origin], by rw [origin], by rw [origin], by rw [origin]⟩
  cases h with
  | replied r => exact same rfl rfl rfl rfl rfl
  | viewed f w => exact same rfl rfl rfl rfl rfl
  | offered src cur => exact same rfl rfl rfl rfl rfl
  | stopped => exact same rfl rfl rfl rfl rfl
  | handed o p seen => exact same rfl rfl rfl rfl rfl
  | queued r a =>
    obtain ⟨⟨profile, empty⟩, rests, still⟩ := hs
    refine ⟨⟨?_, fun none => ?_⟩, fun other => ?_, fun x hx => ?_⟩
    · rw [State.fillAckSlot_loader]
      exact profile
    · rw [State.fillAckSlot_loader] at none ⊢
      rw [State.fillAckSlot, State.wake_table, State.wake_origin, State.wake_roster]
      exact empty none
    · rw [State.fillAckSlot_loader] at other
      exact State.wake_rests other (rests other)
    · rw [State.fillAckSlot_loader] at hx
      have hx' : x ∈ s.loader.rejoin := hx
      rw [rejoin] at hx'
      cases hx'
  | rejoins _ running =>
    obtain ⟨loader, rests, -⟩ := hs
    have run := loader.running.2 ⟨notLoading, running⟩
    refine ⟨.of_running (Option.isSome_iff_ne_none.1 run) ⟨notLoading, running⟩, rests, fun r hr => ?_⟩
    obtain rfl : _ = r := Option.some.inj hr
    exact ⟨rfl, rfl, nofun⟩

/-! ### The startup -/

theorem startup_stillKept {i : Instr} (hb : commandBlock i = .startup) {s : State} (hs : s.StillKept) :
    (effect i s).StillKept := by
  obtain ⟨⟨profile, empty⟩, rests, still⟩ := id hs
  have resting (loading : s.loader.state = .loading) : s.loader.profile = none ∧ s.loader.rejoin = none ∧
      s.tx.state = .idle := by
    have none := profile.2 (.inl loading)
    exact ⟨none, (empty none).1, rests (by rw [loading]; exact nofun)⟩
  have halted (loading : s.loader.state = .loading) (e : ProfileError) (n : Nat) : (s.halt e n).StillKept := by
    obtain ⟨none, rejoin, idle⟩ := resting loading
    refine ⟨⟨⟨fun _ => .inr rfl, fun _ => none⟩, empty⟩, fun _ => idle, fun r hr => ?_⟩
    have hr' : r ∈ s.loader.rejoin := hr
    rw [rejoin] at hr'
    cases hr'
  have inForce {r : RejoinParts} (hr : s.loader.rejoin = some r) : s.LineStill := by
    refine hs.lineStill (Option.isSome_iff_ne_none.2 fun none => ?_)
    rw [(empty none).1] at hr
    cases hr
  cases i <;> cases hb
  case reset => exact ⟨loaderSafe_reset, quietSafe_reset⟩
  case profileHeaderTaken header =>
    obtain h | ⟨loading, ⟨crc, h⟩ | ⟨e, h⟩⟩ := profileHeaderTaken_cases header s
    all_goals
      simp only [effect]
      rw [h]
    · exact hs
    · exact ⟨⟨profile, empty⟩, rests, still⟩
    · exact halted loading e 0
  case profileReadDone image duskOn levels =>
    obtain h | ⟨loading, ⟨crc, -, h⟩ | ⟨e, n, h⟩⟩ := profileReadDone_cases image duskOn levels s
    all_goals
      simp only [effect]
      rw [h]
    · exact hs
    · obtain ⟨-, rejoin, idle⟩ := resting loading
      refine ⟨.of_running nofun ⟨nofun, nofun⟩, fun _ => idle, fun r hr => ?_⟩
      have hr' : r ∈ s.loader.rejoin := hr
      rw [rejoin] at hr'
      cases hr'
    · exact halted loading e n
  case transmitterRejoinPart =>
    obtain h | ⟨d, hr, -, h⟩ := transmitterRejoinPart_cases s
    all_goals
      simp only [effect]
      rw [h]
    · exact hs
    · have force := inForce hr
      obtain ⟨listen, mute, -⟩ := still _ hr
      exact ⟨.of_running force.profile force.state, fun _ => rfl, fun r _ => ⟨listen, rfl, fun _ => ⟨rfl, rfl, rfl, rfl, rfl⟩⟩⟩
  case tableEngineRejoinPart =>
    obtain h | ⟨d, signals, hr, h⟩ := tableEngineRejoinPart_cases s
    all_goals
      simp only [effect]
      rw [h]
    · exact hs
    · have force := inForce hr
      refine ⟨.of_running force.profile force.state, rests, fun r hr' => ?_⟩
      obtain rfl : _ = r := Option.some.inj hr'
      obtain ⟨listen, mute, calm⟩ := still _ hr
      exact ⟨listen, mute, calm⟩
  case rejoinComplete =>
    obtain h | ⟨hr, -, h⟩ := rejoinComplete_cases s
    all_goals
      simp only [effect]
      rw [h]
    · exact hs
    · obtain ⟨-, -, calm⟩ := still _ hr
      obtain ⟨idle, -⟩ := calm rfl
      exact ⟨.of_running (inForce hr).profile ⟨nofun, nofun⟩, fun _ => idle, nofun⟩
  case listeningTimerEnd =>
    obtain h | ⟨listening, ends, h⟩ := listeningTimerEnd_cases s
    all_goals
      simp only [effect]
      rw [h]
    · exact hs
    · have profile' : s.loader.profile ≠ none := fun none => by
        obtain loading | halted := profile.1 none
        · rw [listening] at loading; cases loading
        · rw [listening] at halted; cases halted
      refine ⟨.of_running ?_ ?_, fun other => ?_, fun r hr => ?_⟩
      · rw [State.wake_loader]
        exact profile'
      · rw [State.wake_loader]
        exact ⟨nofun, nofun⟩
      · rw [State.wake_loader] at other
        exact absurd rfl other
      · rw [State.wake_loader] at hr
        obtain ⟨stopped, -⟩ := still r hr
        rw [stopped] at ends
        cases ends

/-! ### Every step -/

theorem effect_stillKept (i : Instr) (s : State) (ok : i.wellFormed = true) (h : Safe s) : (effect i s).StillKept := by
  have hs := h.stillKept
  cases hb : commandBlock i with
  | field => rw [(field_frame hb ok s).eq]; exact hs
  | origin => exact origin_stillKept hb hs
  | line => exact line_stillKept hb hs
  | timers => exact timers_stillKept hb hs
  | deadlines => exact deadlines_stillKept hb hs
  | claims => exact (claim_move s hb).stillKept hs
  | assembler => rw [(assembler_frame hb s).eq]; exact hs
  | service =>
    obtain same | ⟨q, hq, served⟩ := service_served hb s
    · rwa [same]
    · obtain ⟨-, port, -⟩ := h
      exact served.stillKept hq port hs
  | output => rw [(output_frame hb s).eq]; exact hs
  | startup => exact startup_stillKept hb hs

/-- Settles O52: the transmitter leaves its rest IN-STEP alone, and a REJOIN has stopped whatever could disturb it. -/
theorem stepsKeepLoaderAndQuiet : Obligations.StepsKeepLoaderAndQuiet := fun _ _ hs h =>
  step_keeps (Q := State.StillKept) Safe.unqueue (fun _ hs => hs.stillKept) effect_stillKept hs h

end Sys2Proof.Machine

/-!
PROOFS. The Origin Unit in order: its slots sound, its change queue without repeats and with the urgent entries ahead.
-/
namespace Sys2Proof.Machine

/-! ### The change queue (R95) -/

/-- The change queue in order: each slot once, and no ordinary entry ahead of an urgent one. -/
structure QueueInOrder (urgent : Nat → Bool) (q : List Nat) : Prop where
  nodup : q.Nodup
  slots : ∀ k ∈ q, k ≤ 64
  order : q.Pairwise (fun a b => urgent b = true → urgent a = true)

/-- A list stands split by a test exactly when nothing that passes stands behind what does not. -/
theorem eq_filter_append_iff {α : Type} (p : α → Bool) (l : List α) :
    l = l.filter p ++ l.filter (fun x => !p x) ↔ l.Pairwise (fun a b => p b = true → p a = true) := by
  constructor
  · intro h
    rw [h]
    refine List.pairwise_append.2 ⟨?_, ?_, fun a ha b _ _ => (List.mem_filter.1 ha).2⟩
    · exact List.pairwise_of_forall_mem_list fun a ha b _ _ => (List.mem_filter.1 ha).2
    · refine List.pairwise_of_forall_mem_list fun a _ b hb hp => ?_
      have ordinary := (List.mem_filter.1 hb).2
      rw [hp] at ordinary
      cases ordinary
  · intro h
    induction l with
    | nil => rfl
    | cons x l ih =>
      obtain ⟨first, rest⟩ := List.pairwise_cons.1 h
      cases hx : p x with
      | true =>
        rw [List.filter_cons_of_pos hx, List.filter_cons_of_neg (by simp [hx]), List.cons_append, ← ih rest]
      | false =>
        have none : l.filter p = [] := List.filter_eq_nil_iff.2 fun y hy hp => by
          rw [first y hy hp] at hx
          cases hx
        have all : l.filter (fun y => !p y) = l := List.filter_eq_self.2 fun y hy => by
          simpa using List.filter_eq_nil_iff.1 none y hy
        rw [List.filter_cons_of_neg (by simp [hx]), List.filter_cons_of_pos (by simp [hx]), none, all, List.nil_append]

theorem State.queueOrdered_iff (s : State) : s.queueOrdered ↔ QueueInOrder s.urgent s.origin.changeQueue := by
  unfold State.queueOrdered
  rw [eq_filter_append_iff]
  exact ⟨fun ⟨nodup, slots, order⟩ => ⟨nodup, slots, order⟩, fun ⟨nodup, slots, order⟩ => ⟨nodup, slots, order⟩⟩

theorem QueueInOrder.nil (urgent : Nat → Bool) : QueueInOrder urgent [] := ⟨.nil, nofun, .nil⟩

theorem QueueInOrder.sublist {urgent : Nat → Bool} {q q' : List Nat} (h : QueueInOrder urgent q) (hq : q'.Sublist q) :
    QueueInOrder urgent q' :=
  ⟨h.nodup.sublist hq, fun k hk => h.slots k (hq.subset hk), h.order.sublist hq⟩

theorem State.enqueue_perm (s : State) (k : Nat) (q : List Nat) : (s.enqueue k q).Perm (k :: q) := by
  unfold State.enqueue
  split
  · have whole : (q.filter s.urgent ++ q.filter (fun j => !s.urgent j)).Perm q := List.filter_append_perm s.urgent q
    rw [List.append_assoc]
    exact List.perm_middle.trans (whole.cons k)
  · exact List.perm_append_comm

/-- An entry that joins takes its place in the order. -/
theorem QueueInOrder.enqueue {s : State} {q : List Nat} (h : QueueInOrder s.urgent q) {k : Nat} (hk : k ≤ 64)
    (fresh : k ∉ q) : QueueInOrder s.urgent (s.enqueue k q) := by
  have perm := s.enqueue_perm k q
  refine ⟨perm.nodup_iff.2 (List.nodup_cons.2 ⟨fresh, h.nodup⟩), fun j hj => ?_, ?_⟩
  · obtain rfl | hj := List.mem_cons.1 (perm.mem_iff.1 hj)
    · exact hk
    · exact h.slots j hj
  · unfold State.enqueue
    split
    next urgent =>
      rw [← eq_filter_append_iff]
      simp [List.filter_append, urgent]
    next ordinary =>
      refine List.pairwise_append.2 ⟨h.order, List.pairwise_singleton .., fun a _ b hb urgent => ?_⟩
      rw [List.mem_singleton.1 hb] at urgent
      exact absurd urgent ordinary

/-- Entries that join one after another, each new, take their places. -/
theorem QueueInOrder.enqueueAll {s : State} {l q : List Nat} (h : QueueInOrder s.urgent q) (nodup : l.Nodup)
    (new : ∀ k ∈ l, k ≤ 64 ∧ k ∉ q) : QueueInOrder s.urgent (l.foldl (fun q k => s.enqueue k q) q) := by
  induction l generalizing q with
  | nil => exact h
  | cons k l ih =>
    obtain ⟨hk, rest⟩ := List.nodup_cons.1 nodup
    obtain ⟨slot, fresh⟩ := new k List.mem_cons_self
    refine ih (h.enqueue slot fresh) rest fun j hj => ?_
    obtain ⟨slot', fresh'⟩ := new j (List.mem_cons_of_mem _ hj)
    refine ⟨slot', fun mem => ?_⟩
    obtain mem | rfl := (s.mem_enqueue k j q).1 mem
    · exact fresh' mem
    · exact hk hj

/-! ### The Origin Unit in order -/

/-- What `OriginSafe` asks, field by field, under a test of urgency. -/
structure OriginUnit.InOrder (urgent : Nat → Bool) (o : OriginUnit) : Prop where
  length : o.slots.length = 65
  sound : ∀ sl ∈ o.slots, sl.sound
  queue : QueueInOrder urgent o.changeQueue
  nodup : o.ownUpdates.Nodup
  updates : ∀ k ∈ o.ownUpdates, k ≤ 64
  pointer : o.pointer ≤ 64

theorem originSafe_iff (s : State) : OriginSafe s ↔ s.origin.InOrder s.urgent := by
  unfold OriginSafe
  rw [State.queueOrdered_iff]
  exact ⟨fun ⟨length, sound, queue, nodup, updates, pointer⟩ => ⟨length, sound, queue, nodup, updates, pointer⟩,
    fun ⟨length, sound, queue, nodup, updates, pointer⟩ => ⟨length, sound, queue, nodup, updates, pointer⟩⟩

/-- An own record as `OwnSlot.sound` asks, apart from its version. -/
structure Record.Own (r : Record) : Prop where
  fresh : r.freshness = .fresh
  unheard : r.lastHeard = none
  sound : r.sound

theorem OwnSlot.sound.record {sl : OwnSlot} (h : sl.sound) {r : Record} (hr : sl.record = some r) : r.Own := by
  obtain ⟨-, -, records⟩ := h
  obtain ⟨-, fresh, unheard, sound⟩ := records r hr
  exact ⟨fresh, unheard, sound⟩

namespace Record.Own

variable {r : Record} (h : r.Own)

theorem new (s : State) (k : Nat) (kind : Kind) {conds : List Condition} (hc : conds ≠ []) (group parent : Nat)
    (flapping : Bool) : (newOwnRecord s k kind conds group parent flapping).Own :=
  ⟨rfl, rfl, ⟨nofun, nofun⟩, nofun, Nat.le_refl 1, Nat.le_add_left 1 254, hc⟩

include h

theorem reraised (now : Nat) {conds : List Condition} (hc : conds ≠ []) (flapping : Bool) :
    (r.reraised now conds flapping).Own := by
  obtain ⟨-, -, low, high, -⟩ := h.sound
  refine ⟨h.fresh, h.unheard, ⟨nofun, nofun⟩, fun _ => rfl, ?_, ?_, hc⟩
  · simp only [Record.reraised]
    omega
  · simp only [Record.reraised]
    omega

theorem clearedNow (now : Nat) : (r.clearedNow now).Own := by
  obtain ⟨-, -, low, high, conds⟩ := h.sound
  exact ⟨h.fresh, h.unheard, ⟨fun _ => rfl, fun _ => rfl⟩, nofun, low, high, conds⟩

theorem recondition {conds : List Condition} (hc : conds ≠ []) : (r.recondition conds).Own := by
  obtain ⟨cleared, -, low, high, -⟩ := h.sound
  exact ⟨h.fresh, h.unheard, cleared, nofun, low, high, hc⟩

theorem marked (opened : r.state = .opened) (n : Nat) : ({ r with ackMark := some n } : Record).Own := by
  obtain ⟨cleared, -, low, high, conds⟩ := h.sound
  exact ⟨h.fresh, h.unheard, cleared, fun _ => opened, low, high, conds⟩

end Record.Own

namespace OriginUnit.InOrder

variable {urgent : Nat → Bool} {o o' : OriginUnit} (h : o.InOrder urgent)
include h

/-- What changes neither slots nor pointer, and at most shortens the queues, keeps the order. -/
theorem of_sublist (slots : o'.slots = o.slots) (queue : o'.changeQueue.Sublist o.changeQueue)
    (updates : o'.ownUpdates.Sublist o.ownUpdates) (pointer : o'.pointer = o.pointer) : o'.InOrder urgent :=
  ⟨by rw [slots]; exact h.length, by rw [slots]; exact h.sound, h.queue.sublist queue, h.nodup.sublist updates,
    fun k hk => h.updates k (updates.subset hk), by rw [pointer]; exact h.pointer⟩

/-- The Origin Unit may be handed whatever it has not taken yet. -/
theorem of_same (slots : o'.slots = o.slots) (queue : o'.changeQueue = o.changeQueue)
    (updates : o'.ownUpdates = o.ownUpdates) (pointer : o'.pointer = o.pointer) : o'.InOrder urgent :=
  h.of_sublist slots (by rw [queue]) (by rw [updates]) pointer

theorem slot_sound (k : Nat) : (o.slot k).sound := by
  obtain mem | start := o.slot_mem_or_start k
  · exact h.sound _ mem
  · rw [start]
    exact OwnSlot.start_sound

theorem le_of_record {k : Nat} {r : Record} (hr : (o.slot k).record = some r) : k ≤ 64 := by
  have inside := OriginUnit.lt_of_record hr
  rw [h.length] at inside
  exact Nat.le_of_lt_succ inside

theorem setSlot (k : Nat) {sl : OwnSlot} (hsl : sl.sound) : (o.setSlot k sl).InOrder urgent := by
  refine ⟨by rw [OriginUnit.setSlot_slots, List.length_set, h.length], fun x hx => ?_, h.queue, h.nodup, h.updates,
    h.pointer⟩
  obtain mem | rfl := List.mem_or_eq_of_mem_set hx
  · exact h.sound x mem
  · exact hsl

theorem offer {k : Nat} (hk : k ≤ 64) : (o.offer k).InOrder urgent := by
  unfold OriginUnit.offer
  split
  next => exact h
  next absent =>
    have new : k ∉ o.ownUpdates := by simpa using absent
    refine ⟨h.length, h.sound, h.queue, ?_, fun j hj => ?_, h.pointer⟩
    · exact (List.perm_append_singleton k _).nodup_iff.2 (List.nodup_cons.2 ⟨new, h.nodup⟩)
    · obtain mem | mem := List.mem_append.1 hj
      · exact h.updates j mem
      · rw [List.mem_singleton.1 mem]
        exact hk

/-- The change queue is replaced by one in order. -/
theorem requeue {q : List Nat} (hq : QueueInOrder urgent q) : ({ o with changeQueue := q } : OriginUnit).InOrder urgent :=
  ⟨h.length, h.sound, hq, h.nodup, h.updates, h.pointer⟩

end OriginUnit.InOrder

/-! ### The state's Origin Unit in order -/

/-- The Origin Unit is in order under the urgency of the profile in force. -/
abbrev State.OriginInOrder (s : State) : Prop := s.origin.InOrder s.urgent

namespace State.OriginInOrder

variable {s t : State}

theorem of_frame (loader : t.loader.profile = s.loader.profile) (origin : t.origin.InOrder s.urgent) :
    t.OriginInOrder := by
  have urgent : t.urgent = s.urgent := by
    funext k
    rw [State.urgent, State.urgent, State.pointConfig, State.pointConfig, loader]
  rwa [State.OriginInOrder, urgent]

variable (h : s.OriginInOrder)
include h

theorem wake : s.wake.OriginInOrder := by
  refine of_frame (s := s) (by rw [State.wake_loader]) ?_
  rwa [State.wake_origin]

theorem endSend : s.endSend.OriginInOrder := by
  refine of_frame (s := s) ?_ ?_
  all_goals rw [State.endSend_frame]
  exact h

theorem putSlot (k : Nat) {sl : OwnSlot} (hsl : sl.sound) : (s.putSlot k sl).OriginInOrder :=
  of_frame (s := s) rfl (OriginUnit.InOrder.setSlot h k hsl)

theorem commit {k : Nat} (hk : k ≤ 64) {sl : OwnSlot} (history : sl.history.length ≤ 4) {r : Record} (hr : r.Own) :
    (s.commit k sl r).OriginInOrder := by
  have sound : ({ sl with
      record := some { r with version := sl.version + 1 }, version := sl.version + 1, announced := false } :
      OwnSlot).sound := by
    refine ⟨history, nofun, fun x hx => ?_⟩
    obtain rfl := Option.some.inj hx
    exact ⟨rfl, hr.fresh, hr.unheard, hr.sound⟩
  have offered := (OriginUnit.InOrder.setSlot h k sound).offer hk
  have queued : s.origin.changeQueue.contains k = false → QueueInOrder s.urgent (s.enqueue k s.origin.changeQueue) :=
    fun new => h.queue.enqueue hk (by simpa using new)
  unfold State.commit
  dsimp only
  refine State.OriginInOrder.wake (of_frame (s := s) rfl ?_)
  split
  next tests =>
    refine offered.requeue ?_
    simp only [Bool.and_eq_true, Bool.not_eq_true'] at tests
    obtain ⟨⟨-, new⟩, -⟩ := tests
    rw [OriginUnit.offer_eq] at new ⊢
    exact queued new
  next => exact offered

end State.OriginInOrder

end Sys2Proof.Machine

/-!
PROOFS. Every step keeps the Origin Unit in order (chapter 4).
-/
namespace Sys2Proof.Machine

/-! ### The reports that change no record (R84, R91) -/

theorem State.takeReport_unused {s : State} {p : Nat} {rep : ConditionReport} {old sl : OwnSlot}
    {picture : List Condition} {c : Condition} (hold : old = s.origin.slot p)
    (hpic : picture = if rep.raise then condJoin rep.condition old.picture else condLeave rep.condition old.picture)
    (hsl : sl = { old with picture := picture }) (h : old.record = none) (hw : wanted picture = some c)
    (hk : (s.pointConfig p).kind = none) : s.takeReport p rep = s.putSlot p sl := by
  subst hsl hpic hold
  cases hcfg : s.pointConfig p with
  | mk kind group parent set settings =>
    rw [hcfg] at hk
    obtain rfl : kind = none := hk
    simp only [State.takeReport, h, hw, hcfg]

section TakeStationReport

variable {s : State} {rep : StationReport} {old sl : OwnSlot} {list : List Condition} (hold : old = s.origin.slot 0)
  (hlist : list = if rep.raise then condJoin rep.condition old.picture else condLeave rep.condition old.picture)
  (hsl : sl = { old with picture := list }) (moves : ¬(rep.raise = true ↔ rep.condition ∈ old.picture))
include hold hlist hsl moves

theorem State.takeStationReport_empty (h : old.record = none) (hl : list = []) :
    s.takeStationReport rep = s.putSlot 0 sl := by
  have moves := station_moves moves
  subst hl hsl hold
  simp only [State.takeStationReport, if_neg moves, ← hlist, h]

theorem State.takeStationReport_stays {r : Record} (h : old.record = some r) (ho : r.state = .cleared)
    (hl : list = []) : s.takeStationReport rep = s.putSlot 0 sl := by
  have moves := station_moves moves
  subst hl hsl hold
  simp only [State.takeStationReport, if_neg moves, ← hlist, h, ho]

end TakeStationReport

/-- An ACK that passes the re-check is of an OPEN record (R156). -/
theorem State.ownAckCheck_passes {s : State} {k : Nat} {seen : Version} (h : s.ownAckCheck k seen = none) :
    ∃ r, (s.origin.slot k).record = some r ∧ r.state = .opened := by
  unfold State.ownAckCheck at h
  split at h
  next => cases h
  next =>
    split at h
    next => cases h
    next r hr =>
      split at h
      next => cases h
      next opened => exact ⟨r, hr, Classical.not_not.1 opened⟩

/-! ### The commands of the Origin Unit -/

namespace State.OriginInOrder

variable {s : State} (h : s.OriginInOrder)
include h

theorem raisePoint {p : Nat} (hp : p ≤ 64) {sl : OwnSlot} (history : sl.history.length ≤ 4) {make : Bool → Record}
    (made : ∀ b, (make b).Own) : (s.raisePoint p sl make).OriginInOrder := by
  rw [State.raisePoint_eq]
  exact h.commit hp (pushTime_length_le 4 s.now sl.history (by decide) history) (made _)

theorem takeReport {p : Nat} (hp : p ≤ 64) (rep : ConditionReport) : (s.takeReport p rep).OriginInOrder := by
  obtain ⟨old, hold⟩ : ∃ old, old = s.origin.slot p := ⟨_, rfl⟩
  obtain ⟨picture, hpic⟩ : ∃ picture, picture = if rep.raise then condJoin rep.condition old.picture
    else condLeave rep.condition old.picture := ⟨_, rfl⟩
  obtain ⟨sl, hsl⟩ : ∃ sl : OwnSlot, sl = { old with picture := picture } := ⟨_, rfl⟩
  have before : old.sound := hold ▸ OriginUnit.InOrder.slot_sound h p
  have sound : sl.sound := hsl ▸ before
  obtain ⟨history, -⟩ := id sound
  cases hr : old.record with
  | none =>
    cases hw : wanted picture with
    | none =>
      rw [State.takeReport_empty hold hpic hsl hr hw]
      exact h.putSlot p sound
    | some c =>
      cases hk : (s.pointConfig p).kind with
      | none =>
        rw [State.takeReport_unused hold hpic hsl hr hw hk]
        exact h.putSlot p sound
      | some k =>
        rw [State.takeReport_new hold hpic hsl hr hw hk]
        exact h.raisePoint hp history fun b => Record.Own.new s p k (List.cons_ne_nil c []) _ _ b
  | some r =>
    have own := before.record hr
    cases hw : wanted picture with
    | none =>
      cases ho : r.state with
      | opened =>
        cases hf : r.flapping with
        | true =>
          rw [State.takeReport_quiets hold hpic hsl hr ho hw hf]
          refine h.putSlot p ?_
          split <;> exact sound
        | false =>
          rw [State.takeReport_clears hold hpic hsl hr ho hw hf]
          exact h.commit hp history (own.clearedNow _)
      | cleared =>
        rw [State.takeReport_stays hold hpic hsl hr ho hw]
        exact h.putSlot p sound
    | some c =>
      cases ho : r.state with
      | opened =>
        by_cases hc : r.conds = [c]
        · rw [State.takeReport_same hold hpic hsl hr ho hw hc]
          exact h.putSlot p sound
        · rw [State.takeReport_other hold hpic hsl hr ho hw hc]
          exact h.commit (sl := { sl with quietEnd := none }) hp history (own.recondition (List.cons_ne_nil c []))
      | cleared =>
        rw [State.takeReport_reraises hold hpic hsl hr ho hw]
        exact h.raisePoint hp history fun b => own.reraised _ (List.cons_ne_nil c []) b

theorem takeStationReport (rep : StationReport) : (s.takeStationReport rep).OriginInOrder := by
  obtain ⟨old, hold⟩ : ∃ old, old = s.origin.slot 0 := ⟨_, rfl⟩
  obtain ⟨list, hlist⟩ : ∃ list, list = if rep.raise then condJoin rep.condition old.picture
    else condLeave rep.condition old.picture := ⟨_, rfl⟩
  obtain ⟨sl, hsl⟩ : ∃ sl : OwnSlot, sl = { old with picture := list } := ⟨_, rfl⟩
  have before : old.sound := hold ▸ OriginUnit.InOrder.slot_sound h 0
  have sound : sl.sound := hsl ▸ before
  obtain ⟨history, -⟩ := id sound
  by_cases moves : rep.raise = true ↔ rep.condition ∈ old.picture
  · rw [State.takeStationReport_idle hold moves]
    exact h
  · cases hr : old.record with
    | none =>
      by_cases hl : list = []
      · rw [State.takeStationReport_empty hold hlist hsl moves hr hl]
        exact h.putSlot 0 sound
      · rw [State.takeStationReport_new hold hlist hsl moves hr hl]
        exact h.commit (Nat.zero_le 64) history (Record.Own.new s 0 .station hl 0 0 false)
    | some r =>
      have own := before.record hr
      by_cases hl : list = []
      · cases ho : r.state with
        | opened =>
          rw [State.takeStationReport_clears hold hlist hsl moves hr ho hl]
          exact h.commit (Nat.zero_le 64) history (own.clearedNow _)
        | cleared =>
          rw [State.takeStationReport_stays hold hlist hsl moves hr ho hl]
          exact h.putSlot 0 sound
      · cases ho : r.state with
        | opened =>
          rw [State.takeStationReport_changes hold hlist hsl moves hr ho hl]
          exact h.commit (Nat.zero_le 64) history (own.recondition hl)
        | cleared =>
          rw [State.takeStationReport_reraises hold hlist hsl moves hr ho hl]
          exact h.commit (Nat.zero_le 64) history (own.reraised _ hl false)

theorem dropLingered (k : Nat) : (s.dropLingered k).OriginInOrder := by
  refine of_frame (s := s) (by rw [State.dropLingered_frame]) ?_
  rw [State.dropLingered_origin]
  exact h

/-- The linger's end empties a slot, and its entry leaves the queue (R88). -/
theorem lingered {k : Nat} (hk : k ≤ 64) : (s.origin.lingered k).InOrder s.urgent := by
  have emptied : (s.origin.slot k).emptied.sound := by
    obtain ⟨history, -⟩ := OriginUnit.InOrder.slot_sound h k
    exact ⟨history, fun _ => rfl, nofun⟩
  have offered := (OriginUnit.InOrder.setSlot h k emptied).offer hk
  rw [OriginUnit.offer_eq] at offered
  refine offered.of_sublist rfl ?_ (.refl _) rfl
  rw [OriginUnit.lingered]
  dsimp only
  split
  · exact .refl _
  · exact List.filter_sublist

/-- The entries that the end of a hold releases are new, and ascending (R94). -/
theorem holdEnded (g : Nat) (rest : List HoldSignal) : (s.holdEnded g rest).InOrder s.urgent := by
  refine ⟨h.length, h.sound, h.queue.enqueueAll ?_ ?_, h.nodup, h.updates, h.pointer⟩
  all_goals split
  · exact (allPoints_ascending.imp Nat.ne_of_lt).filter _
  · exact .nil
  · intro k hk
    obtain ⟨point, fresh, -⟩ := (OriginUnit.mem_released ..).1 hk
    exact ⟨by simp [pointOk] at point; omega, fresh⟩
  · exact nofun

end State.OriginInOrder

theorem origin_inOrder {i : Instr} (hb : commandBlock i = .origin) (ok : i.wellFormed = true) {s : State}
    (h : s.OriginInOrder) : (effect i s).OriginInOrder := by
  have handed {o : OriginUnit} (slots : o.slots = s.origin.slots) (queue : o.changeQueue = s.origin.changeQueue)
      (updates : o.ownUpdates = s.origin.ownUpdates) (pointer : o.pointer = s.origin.pointer) :
      State.OriginInOrder { s with origin := o } := OriginUnit.InOrder.of_same h slots queue updates pointer
  cases i <;> cases hb
  case conditionReport p =>
    simp only [effect, conditionReport]
    have slot : p ≤ 64 := by simp [Instr.wellFormed, pointOk] at ok; omega
    split
    next => exact h
    next rep hrep =>
      refine State.OriginInOrder.takeReport (s := { s with origin := _ }) ?_ slot rep
      exact handed rfl rfl rfl rfl
  case stationConditionReport src =>
    simp only [effect, stationConditionReport]
    split
    next => exact h
    next rep hrep =>
      refine State.OriginInOrder.takeStationReport (s := { s with origin := _ }) ?_ rep
      exact handed rfl rfl rfl rfl
  case flapRelease k =>
    simp only [effect, flapRelease]
    split
    next r hr =>
      split
      · have old := OriginUnit.InOrder.slot_sound h k
        exact h.commit (sl := { s.origin.slot k with history := [], quietEnd := none })
          (OriginUnit.InOrder.le_of_record h hr) (Nat.zero_le 4) ((old.record hr).clearedNow _)
      · exact h
    next => exact h
  case ownLingerEnd k =>
    simp only [effect]
    by_cases ends : s.lingerOver k = true
    · rw [ownLingerEnd_of_over ends]
      exact State.OriginInOrder.dropLingered (s := { s with origin := s.origin.lingered k })
        (h.lingered (by simp [Instr.wellFormed, slotOk] at ok; omega)) k
    · rw [ownLingerEnd_of_not ends]
      exact h
  case holdBegunSignal =>
    simp only [effect, holdBegunSignal]
    split
    · exact handed rfl rfl rfl rfl
    · exact h
  case holdEndedSignal =>
    simp only [effect]
    by_cases ends : ∃ g rest, s.origin.holdIn = .ended g :: rest
    · obtain ⟨g, rest, he⟩ := ends
      rw [holdEndedSignal_of_head he]
      exact State.OriginInOrder.wake (s := { s with origin := s.holdEnded g rest }) (h.holdEnded g rest)
    · rw [holdEndedSignal_of_not fun g rest he => ends ⟨g, rest, he⟩]
      exact h
  case ownAckDecision =>
    simp only [effect]
    by_cases serves : ∃ o k seen, s.port.service = .ownAck o k seen
    · obtain ⟨o, k, seen, hs⟩ := serves
      cases hc : s.ownAckCheck k seen with
      | some reason =>
        rw [ownAckDecision_refused hs hc]
        exact h
      | none =>
        obtain ⟨r, hr, opened⟩ := State.ownAckCheck_passes hc
        have old := OriginUnit.InOrder.slot_sound h k
        rw [ownAckDecision_accepted hs hc hr]
        exact h.commit (OriginUnit.InOrder.le_of_record h hr) old.1 ((old.record hr).marked opened _)
    · rw [ownAckDecision_of_not fun o k seen hs => serves ⟨o, k, seen, hs⟩]
      exact h
  case acknowledgeAtOrigin =>
    simp only [effect]
    cases ha : s.origin.acksIn with
    | nil =>
      rw [acknowledgeAtOrigin_of_nil ha]
      exact h
    | cons a rest =>
      cases applies : s.ackApplies a with
      | none =>
        rw [acknowledgeAtOrigin_ignored ha applies]
        exact handed rfl rfl rfl rfl
      | some r =>
        obtain ⟨hr, -, opened, -⟩ := (s.ackApplies_iff a r).1 applies
        have old := OriginUnit.InOrder.slot_sound h a.point
        rw [acknowledgeAtOrigin_applied ha applies]
        exact State.OriginInOrder.commit (s := { s with origin := { s.origin with acksIn := rest } })
          (handed rfl rfl rfl rfl) (OriginUnit.InOrder.le_of_record h hr) old.1 ((old.record hr).marked opened _)
  case walkStep =>
    simp only [effect]
    by_cases ends : ∃ t, s.origin.stepDue = some t ∧ t ≤ s.now
    · obtain ⟨t, step, time⟩ := ends
      rw [walkStep_of_due step time]
      refine State.OriginInOrder.wake (s := { s with origin := _ }) ?_
      exact ⟨h.length, h.sound, h.queue, h.nodup, h.updates, by simp only [OriginUnit.walked]; omega⟩
    · rw [walkStep_of_not fun t step => Nat.lt_of_not_le fun time => ends ⟨t, step, time⟩]
      exact h

end Sys2Proof.Machine

/-!
PROOFS. Every step keeps the Origin Unit in order, continued: the line, the claims and the startup.
-/
namespace Sys2Proof.Machine

/-! ### The line (R144 to R146) -/

/-- A frame that sets the announced flag on a match matches a record (R144). -/
theorem OriginUnit.record_of_matches {o : OriginUnit} {c : Carried} {k : Nat} (slot : c.slot = some (k, true))
    (h : o.matches c = true) : (o.slot k).record ≠ none := by
  cases c with
  | record j v =>
    obtain rfl : j = k := by simpa [Carried.slot] using slot
    intro none
    simp [OriginUnit.matches, none] at h
  | roll part counter =>
    cases part with
    | some v =>
      obtain rfl : 0 = k := by simpa [Carried.slot] using slot
      intro none
      simp [OriginUnit.matches, none] at h
    | none => simp [Carried.slot] at slot
  | acknowledge => cases slot

/-- A success announces a slot that holds a record, and takes the slot's entry from the queue (R144, R145). -/
theorem OriginUnit.InOrder.succeed {urgent : Nat → Bool} {o : OriginUnit} (h : o.InOrder urgent) (c : Carried) :
    (o.succeed c).InOrder urgent := by
  unfold OriginUnit.succeed
  split
  next => exact h.of_same rfl rfl rfl rfl
  next k announce slot =>
    split
    next fits =>
      cases announce with
      | false => exact h.of_sublist rfl List.filter_sublist (.refl _) rfl
      | true =>
        obtain ⟨history, -, records⟩ := h.slot_sound k
        have announced : ({ o.slot k with announced := true } : OwnSlot).sound :=
          ⟨history, fun none => absurd none (OriginUnit.record_of_matches slot fits), records⟩
        exact (h.setSlot k announced).of_sublist rfl List.filter_sublist (.refl _) rfl
    next => exact h

theorem State.abandonItem_inOrder {s : State} (h : s.OriginInOrder) (i : SendItem) :
    (s.abandonItem i).origin.InOrder s.urgent := by
  cases i with
  | change k => exact OriginUnit.InOrder.of_sublist h rfl List.filter_sublist (.refl _) rfl
  | refresh k => exact h
  | ack =>
    simp only [State.abandonItem]
    split
    · exact OriginUnit.InOrder.of_same h rfl rfl rfl rfl
    · exact h

theorem Failed.inOrder {s t : State} (f : Failed s t) (h : s.OriginInOrder) : t.origin.InOrder s.urgent := by
  cases f with
  | rested => exact h
  | muted c => exact OriginUnit.InOrder.of_same h rfl rfl rfl rfl
  | abandoned c =>
    rw [State.abandon_eq, State.endSend_frame]
    exact State.abandonItem_inOrder (s := s.failCounted) h c.item
  | ended =>
    rw [State.endSend_frame]
    exact h
  | retried c => exact h

theorem Accessed.inOrder {s t : State} (a : Accessed s t) (h : s.OriginInOrder) : t.origin.InOrder s.urgent := by
  cases a with
  | resumed c f => exact h
  | ended =>
    rw [State.endSend_frame]
    exact h
  | rested => exact h
  | begun i f =>
    rw [State.takeRefresh_eq]
    exact OriginUnit.InOrder.of_same h rfl rfl rfl rfl

theorem LineMove.inOrder {s t : State} (m : LineMove s t) (h : s.OriginInOrder) : t.OriginInOrder := by
  have profile : t.loader.profile = s.loader.profile := by rw [m.frame.eq]
  refine .of_frame profile ?_
  cases m with
  | receiver _ frame =>
    rw [frame]
    exact h
  | turn => exact h
  | clash => exact OriginUnit.InOrder.of_same h rfl rfl rfl rfl
  | arrival => exact h
  | failure => exact s.attemptFail_failed.inOrder h
  | success a =>
    rw [State.attemptSucceed, State.endSend_frame]
    exact OriginUnit.InOrder.succeed h a.carried
  | echo => exact h
  | access => exact s.access_accessed.inOrder h

/-! ### The claims -/

theorem ClaimMove.inOrder {s t : State} (m : ClaimMove s t) (h : s.OriginInOrder) : t.OriginInOrder := by
  cases m with
  | none => exact h
  | closed run u w extra frame =>
    refine .of_frame (s := s) (by rw [State.closeClaim_loader, frame.eq]) ?_
    rw [State.closeClaim_origin, frame.eq]
    exact OriginUnit.InOrder.of_sublist h rfl (.refl _) frame.updates rfl
  | page run _ items p =>
    exact .of_frame (s := s) rfl (OriginUnit.InOrder.of_same h rfl rfl rfl rfl)

/-! ### The startup (R102, R194, R200) -/

/-- The change queue at entry to IN-STEP is in order (R102). -/
theorem State.entryQueue_inOrder (s : State) : QueueInOrder s.urgent s.entryQueue := by
  have ascending : s.origin.heldSlots.Nodup := (allPoints_ascending.imp Nat.ne_of_lt).filter _
  have point {p : Nat → Bool} {k : Nat} (hk : k ∈ s.origin.heldSlots.filter p) : 1 ≤ k ∧ k ≤ 64 := by
    have held := List.mem_of_mem_filter (List.mem_of_mem_filter hk)
    simpa [pointOk] using (mem_allPoints k).1 held
  have ordinary {k : Nat} (hk : k ∈ s.origin.heldSlots.filter fun k => !s.urgent k && !s.origin.slotDeferred k) :
      ¬s.urgent k = true := by
    have tests := (List.mem_filter.1 hk).2
    simp only [Bool.and_eq_true, Bool.not_eq_true'] at tests
    simp [tests.1]
  refine ⟨List.nodup_cons.2 ⟨fun mem => ?_, List.nodup_append.2 ⟨ascending.filter _, ascending.filter _, ?_⟩⟩,
    fun k hk => ?_, List.pairwise_cons.2 ⟨fun _ _ _ => rfl, List.pairwise_append.2 ⟨?_, ?_, ?_⟩⟩⟩
  · obtain mem | mem := List.mem_append.1 mem
    all_goals exact absurd (point mem).1 (Nat.not_succ_le_zero 0)
  · rintro k first _ second rfl
    exact ordinary second (List.mem_filter.1 first).2
  · obtain rfl | mem := List.mem_cons.1 hk
    · exact Nat.zero_le 64
    · obtain mem | mem := List.mem_append.1 mem
      all_goals exact (point mem).2
  · exact List.pairwise_of_forall_mem_list fun _ first _ _ _ => (List.mem_filter.1 first).2
  · exact List.pairwise_of_forall_mem_list fun _ _ _ second urgent => absurd urgent (ordinary second)
  · exact fun _ _ _ second urgent => absurd urgent (ordinary second)

theorem startup_inOrder {i : Instr} (hb : commandBlock i = .startup) {s : State} (hl : LoaderSafe s)
    (h : s.OriginInOrder) : (effect i s).OriginInOrder := by
  cases i <;> cases hb
  case reset => exact (originSafe_iff _).1 originSafe_reset
  case profileHeaderTaken header =>
    obtain eq | ⟨-, ⟨crc, eq⟩ | ⟨e, eq⟩⟩ := profileHeaderTaken_cases header s
    all_goals
      simp only [effect]
      rw [eq]
      exact h
  case profileReadDone image duskOn levels =>
    obtain eq | ⟨loading, ⟨crc, -, eq⟩ | ⟨e, n, eq⟩⟩ := profileReadDone_cases image duskOn levels s
    all_goals
      simp only [effect]
      rw [eq]
    · exact h
    · obtain ⟨profile, rest⟩ := hl
      obtain ⟨-, -, -, empty, -⟩ := rest (profile.2 (.inl loading))
      refine ⟨h.length, h.sound, ?_, h.nodup, h.updates, h.pointer⟩
      rw [State.loadCompletes]
      dsimp only
      rw [empty]
      exact .nil _
    · exact h
  case transmitterRejoinPart =>
    obtain eq | ⟨d, -, -, eq⟩ := transmitterRejoinPart_cases s
    all_goals
      simp only [effect]
      rw [eq]
    · exact h
    · exact ⟨h.length, h.sound, .nil _, h.nodup, h.updates, Nat.zero_le 64⟩
  case tableEngineRejoinPart =>
    obtain eq | ⟨d, signals, -, eq⟩ := tableEngineRejoinPart_cases s
    all_goals
      simp only [effect]
      rw [eq]
    · exact h
    · exact .of_frame (s := s) rfl (OriginUnit.InOrder.of_same h rfl rfl rfl rfl)
  case rejoinComplete =>
    obtain eq | ⟨-, -, eq⟩ := rejoinComplete_cases s
    all_goals
      simp only [effect]
      rw [eq]
      exact h
  case listeningTimerEnd =>
    obtain eq | ⟨-, -, eq⟩ := listeningTimerEnd_cases s
    all_goals
      simp only [effect]
      rw [eq]
    · exact h
    · refine State.OriginInOrder.wake (.of_frame (s := s) rfl ?_)
      exact ⟨h.length, h.sound, s.entryQueue_inOrder, h.nodup, h.updates, Nat.zero_le 64⟩

/-! ### Every step -/

/-- A command that writes nothing of the Origin Unit but what waits for it, or what it holds for others. -/
theorem State.OriginInOrder.of_others {s t : State} (h : s.OriginInOrder) (profile : t.loader.profile = s.loader.profile)
    (slots : t.origin.slots = s.origin.slots) (queue : t.origin.changeQueue = s.origin.changeQueue)
    (updates : t.origin.ownUpdates = s.origin.ownUpdates) (pointer : t.origin.pointer = s.origin.pointer) :
    t.OriginInOrder := .of_frame profile (OriginUnit.InOrder.of_same h slots queue updates pointer)

theorem effect_inOrder (i : Instr) (s : State) (ok : i.wellFormed = true) (hs : Safe s) : OriginSafe (effect i s) := by
  obtain ⟨loader, -, origin, -⟩ := hs
  have h := (originSafe_iff s).1 origin
  rw [originSafe_iff]
  cases hb : commandBlock i with
  | field => rw [(field_frame hb ok s).eq]; exact State.OriginInOrder.of_others h rfl rfl rfl rfl rfl
  | origin => exact origin_inOrder hb ok h
  | line => exact line_keeps hb (P := State.OriginInOrder) (fun _ _ _ h move => move.inOrder h) h
  | timers => rw [(timers_frame hb s).eq]; exact State.OriginInOrder.of_others h rfl rfl rfl rfl rfl
  | deadlines => rw [(deadlines_frame hb s).eq]; exact h
  | claims => exact (claim_move s hb).inOrder h
  | assembler => rw [(assembler_frame hb s).eq]; exact h
  | service => rw [(service_frame hb s).eq]; exact State.OriginInOrder.of_others h rfl rfl rfl rfl rfl
  | output => rw [(output_frame hb s).eq]; exact h
  | startup => exact startup_inOrder hb loader h

/-- Settles O54: the Origin Unit's own commands commit sound records and enqueue in order; the rest at most shortens its queues. -/
theorem stepsKeepTheSlotsAndTheChangeQueue : Obligations.StepsKeepTheSlotsAndTheChangeQueue := fun _ _ hs h =>
  step_keeps (Q := OriginSafe) Safe.unqueue (fun _ ⟨_, _, origin, _⟩ => origin) effect_inOrder hs h

end Sys2Proof.Machine

/-!
PROOFS. Every command leaves the command queue as it is (log 16).
-/
namespace Sys2Proof.Machine

theorem ClaimMove.pending {s t : State} (m : ClaimMove s t) : t.pending = s.pending := by
  cases m with
  | none => rfl
  | closed _ u w extra frame => rw [State.closeClaim_pending, frame.eq]
  | page => rfl

theorem startup_pending {i : Instr} (hb : commandBlock i = .startup) (s : State) :
    (effect i s).pending = s.pending := by
  cases i <;> cases hb
  case reset => rfl
  case profileHeaderTaken header =>
    obtain eq | ⟨-, ⟨crc, eq⟩ | ⟨e, eq⟩⟩ := profileHeaderTaken_cases header s
    all_goals
      simp only [effect]
      rw [eq]
    rfl
  case profileReadDone image duskOn levels =>
    obtain eq | ⟨-, ⟨crc, -, eq⟩ | ⟨e, n, eq⟩⟩ := profileReadDone_cases image duskOn levels s
    all_goals
      simp only [effect]
      rw [eq]
    all_goals rfl
  case transmitterRejoinPart =>
    obtain eq | ⟨d, -, -, eq⟩ := transmitterRejoinPart_cases s
    all_goals
      simp only [effect]
      rw [eq]
  case tableEngineRejoinPart =>
    obtain eq | ⟨d, signals, -, eq⟩ := tableEngineRejoinPart_cases s
    all_goals
      simp only [effect]
      rw [eq]
  case rejoinComplete =>
    obtain eq | ⟨-, -, eq⟩ := rejoinComplete_cases s
    all_goals
      simp only [effect]
      rw [eq]
  case listeningTimerEnd =>
    obtain eq | ⟨-, -, eq⟩ := listeningTimerEnd_cases s
    all_goals
      simp only [effect]
      rw [eq]
    rw [State.wake_eq]

theorem effect_pending {i : Instr} (ok : i.wellFormed = true) (s : State) : (effect i s).pending = s.pending := by
  cases hb : commandBlock i with
  | field => rw [(field_frame hb ok s).eq]
  | origin =>
    by_cases hi : i = .ownAckDecision
    · subst hi
      simp only [effect]
      obtain eq | ⟨o, k, seen, t, r, -, frame, eq⟩ := ownAckDecision_cases s
      all_goals rw [eq]
      rw [State.answerAck, frame.eq]
    · rw [(originFrame_of_block hb hi s).eq]
  | line =>
    obtain eq | ⟨-, moves⟩ := line_moves hb s
    · rw [eq]
    · rw [moves.frame.eq]
  | timers => rw [(timers_frame hb s).eq]
  | deadlines => rw [(deadlines_frame hb s).eq]
  | claims => exact (claim_move s hb).pending
  | assembler => rw [(assembler_frame hb s).eq]
  | service => rw [(service_frame hb s).eq]
  | output => rw [(output_frame hb s).eq]
  | startup => exact startup_pending hb s

/-- Settles O3: a well-formed command answers with its effect, which leaves the queue alone; the rest is the range of each number. -/
theorem wellFormedCommandsComplete : Obligations.WellFormedCommandsComplete := by
  refine ⟨fun i s => ⟨fun ok => ⟨_, exec_of_wellFormed ok s, effect_pending ok s⟩, fun ill => ?_⟩, fun n b => ?_⟩
  · rw [exec_eq_answer, ill]
    rfl
  · simp [pointOk, slotOk, stationOk, groupOk, headerOk, imageOk]

end Sys2Proof.Machine

/-!
PROOFS. The profile: the image's entries byte by byte, and its checks in order (R58, R186 to R191, R211).
-/
namespace Sys2Proof.Machine

/-! ### The entries of the image (R211) -/

/-- A byte of a point's entry, from the image after the header. -/
theorem byteAt_entryBytes (b : List Byte) (p : Nat) {i : Nat} (hi : i < 10) :
    byteAt (entryBytes b p) i = byteAt b (9 + 10 * (p - 1) + i) := by
  simp only [byteAt, entryBytes, List.getD_eq_getElem?_getD, List.getElem?_take_of_lt hi, List.getElem?_drop]

theorem wordAt_entryBytes (b : List Byte) (p : Nat) {i : Nat} (hi : i + 1 < 10) :
    wordAt (entryBytes b p) i = wordAt b (9 + 10 * (p - 1) + i) := by
  rw [wordAt, wordAt, byteAt_entryBytes b p (Nat.lt_of_succ_lt hi), byteAt_entryBytes b p hi]
  simp only [Nat.add_assoc]

/-! ### The first error of a list of checks (R190) -/

theorem firstError_cons (ok : Bool) (e : ProfileError) (l : List (Bool × ProfileError)) :
    firstError ((ok, e) :: l) = if ok then firstError l else e := rfl

theorem firstError_append_of_failed {l m : List (Bool × ProfileError)} (h : firstError l ≠ .none) :
    firstError (l ++ m) = firstError l := by
  induction l with
  | nil => exact absurd rfl h
  | cons c l ih =>
    obtain ⟨ok, e⟩ := c
    cases ok with
    | true => exact ih h
    | false => rfl

/-- Each check gives a code when it fails. -/
def Coded (l : List (Bool × ProfileError)) : Prop := ∀ c ∈ l, c.2 ≠ .none

theorem firstError_append_of_passed {l m : List (Bool × ProfileError)} (coded : Coded l) (h : firstError l = .none) :
    firstError (l ++ m) = firstError m := by
  induction l with
  | nil => rfl
  | cons c l ih =>
    obtain ⟨ok, e⟩ := c
    cases ok with
    | true => exact ih (fun c hc => coded c (List.mem_cons_of_mem _ hc)) h
    | false => exact absurd h (coded _ List.mem_cons_self)

theorem firstError_mem {l : List (Bool × ProfileError)} (h : firstError l ≠ .none) : firstError l ∈ l.map (·.2) := by
  induction l with
  | nil => exact absurd rfl h
  | cons c l ih =>
    obtain ⟨ok, e⟩ := c
    cases ok with
    | true => exact List.mem_cons_of_mem _ (ih h)
    | false => exact List.mem_cons_self

section FlatMap

variable {check : Nat → List (Bool × ProfileError)} {m : List (Bool × ProfileError)} (coded : ∀ p, Coded (check p))
include coded

/-- The first point in order whose checks fail decides. -/
theorem firstError_flatMap_of_failed {l : List Nat} (asc : l.Pairwise (· < ·)) {p : Nat} (hp : p ∈ l)
    (fails : firstError (check p) ≠ .none) (before : ∀ q ∈ l, q < p → firstError (check q) = .none) :
    firstError (l.flatMap check ++ m) = firstError (check p) := by
  induction l with
  | nil => cases hp
  | cons x l ih =>
    rw [List.flatMap_cons, List.append_assoc]
    obtain ⟨first, rest⟩ := List.pairwise_cons.1 asc
    obtain rfl | hp := List.mem_cons.1 hp
    · exact firstError_append_of_failed fails
    · rw [firstError_append_of_passed (coded x) (before x List.mem_cons_self (first p hp))]
      exact ih rest hp fun q hq => before q (List.mem_cons_of_mem _ hq)

theorem firstError_flatMap_of_passed {l : List Nat} (h : ∀ p ∈ l, firstError (check p) = .none) :
    firstError (l.flatMap check ++ m) = firstError m := by
  induction l with
  | nil => rfl
  | cons x l ih =>
    rw [List.flatMap_cons, List.append_assoc, firstError_append_of_passed (coded x) (h x List.mem_cons_self)]
    exact ih fun p hp => h p (List.mem_cons_of_mem _ hp)

end FlatMap

/-! ### The checks of one entry (R58, R59, R190) -/

theorem entryChecks_coded (e : List Byte) : Coded (entryChecks e) := by
  unfold entryChecks
  split
  · exact nofun
  · intro c hc
    rw [List.mem_singleton.1 hc]
    exact nofun
  · intro c hc
    simp only [List.mem_cons, List.not_mem_nil, or_false] at hc
    obtain rfl | rfl | rfl | rfl | rfl | rfl := hc
    all_goals exact nofun

theorem within_iff (lo hi n : Nat) : within lo hi n = true ↔ lo ≤ n ∧ n ≤ hi := by
  simp [within]

theorem entryChecks_of_unused {e : List Byte} (h : byteAt e 0 = 0) : entryChecks e = [] := by
  simp only [entryChecks, h]

theorem entryChecks_of_unknown {e : List Byte} (h : 4 < byteAt e 0) : entryChecks e = [(false, .range)] := by
  obtain ⟨n, hn⟩ : ∃ n, byteAt e 0 = n + 5 := ⟨byteAt e 0 - 5, by omega⟩
  simp only [entryChecks, hn, Kind.ofPointCode]

theorem entryChecks_of_kind {e : List Byte} {k : Kind} (h : Kind.ofPointCode (byteAt e 0) = some k) :
    entryChecks e = [(k ≠ .supply || wordAt e 1 ≠ 0, .supplyNoGroup),
      (decide (wordAt e 1 ≤ 511), .range), (k ≠ .supply || wordAt e 3 ≠ wordAt e 1, .supplyOwnParent),
      (if k = .supply then decide (wordAt e 3 ≤ 511) else decide (wordAt e 3 = 0), .range),
      (decide (byteAt e 5 ≤ 3), .range), (byteAt e 5 ≠ 0 || (explicitSettings k e).inRange, .range)] := by
  have used : byteAt e 0 ≠ 0 := fun zero => by simp [zero, Kind.ofPointCode] at h
  unfold entryChecks
  split
  next zero => exact absurd zero used
  next none _ => rw [h] at none; cases none
  next some _ =>
    rw [h] at some
    cases some
    rfl

/-- The first failing check of an entry of a kind. -/
theorem firstError_entryChecks {e : List Byte} {k : Kind} (h : Kind.ofPointCode (byteAt e 0) = some k) :
    firstError (entryChecks e) =
      if k = .supply ∧ wordAt e 1 = 0 then .supplyNoGroup
      else if 511 < wordAt e 1 then .range
      else if k = .supply ∧ wordAt e 3 = wordAt e 1 then .supplyOwnParent
      else if 511 < wordAt e 3 ∨ (k ≠ .supply ∧ wordAt e 3 ≠ 0) then .range
      else if 3 < byteAt e 5 then .range
      else if byteAt e 5 = 0 ∧ (explicitSettings k e).inRange = false then .range
      else .none := by
  have ite_swap (c d : Prop) [Decidable c] [Decidable d] (hcd : c ↔ ¬d) (x y : ProfileError) :
      (if c then x else y) = if d then y else x := by
    by_cases hd : d <;> simp [hcd, hd]
  simp only [entryChecks_of_kind h, firstError_cons]
  refine (ite_swap _ _ (by by_cases hk : k = .supply <;> simp [hk]) _ _).trans (if_congr Iff.rfl rfl ?_)
  refine (ite_swap _ _ (by simp) _ _).trans (if_congr Iff.rfl rfl ?_)
  refine (ite_swap _ _ (by by_cases hk : k = .supply <;> simp [hk]) _ _).trans (if_congr Iff.rfl rfl ?_)
  refine (ite_swap _ _ (by by_cases hk : k = .supply <;> simp [hk]; omega) _ _).trans (if_congr Iff.rfl rfl ?_)
  refine (ite_swap _ _ (by simp) _ _).trans (if_congr Iff.rfl rfl ?_)
  exact (ite_swap _ _ (by by_cases set : byteAt e 5 = 0 <;> simp [set]) _ _).trans (if_congr Iff.rfl rfl rfl)

/-- The code of an entry's first failing check, from its bytes and words (R58, R59, R190). -/
def entryError (field word : Nat → Nat) : ProfileError :=
  if field 0 = 0 then .none
  else if 4 < field 0 then .range
  else if field 0 = 4 ∧ word 1 = 0 then .supplyNoGroup
  else if 511 < word 1 then .range
  else if field 0 = 4 ∧ word 3 = word 1 then .supplyOwnParent
  else if 511 < word 3 ∨ (field 0 ≠ 4 ∧ word 3 ≠ 0) then .range
  else if 3 < field 5 then .range
  else if field 5 = 0 ∧ ¬(
      (field 0 = 1 → (2 ≤ field 6 ∧ field 6 ≤ 60) ∧ (60 ≤ word 7 ∧ word 7 ≤ 3600) ∧ 2 ≤ field 9 ∧ field 9 ≤ 15) ∧
      (field 0 = 2 → (1 ≤ field 6 ∧ field 6 ≤ 32) ∧ (60 ≤ word 7 ∧ word 7 ≤ 3600) ∧ 10 ≤ field 9 ∧ field 9 ≤ 100) ∧
      (field 0 = 3 → 10 ≤ word 6 ∧ word 6 ≤ 300) ∧
      (field 0 = 4 → (1 ≤ field 6 ∧ field 6 ≤ 10) ∧ 1 ≤ field 7 ∧ field 7 ≤ 30)) then .range
  else .none

theorem Kind.ofPointCode_cases {n : Nat} (used : n ≠ 0) (known : n ≤ 4) : n = 1 ∧ Kind.ofPointCode n = some .lamp ∨
    n = 2 ∧ Kind.ofPointCode n = some .loop ∨ n = 3 ∧ Kind.ofPointCode n = some .sign ∨
    n = 4 ∧ Kind.ofPointCode n = some .supply := by
  obtain rfl | rfl | rfl | rfl : n = 1 ∨ n = 2 ∨ n = 3 ∨ n = 4 := by omega
  all_goals simp [Kind.ofPointCode]

theorem firstError_entry (e : List Byte) : firstError (entryChecks e) = entryError (byteAt e) (wordAt e) := by
  by_cases used : byteAt e 0 = 0
  · rw [entryChecks_of_unused used, entryError, if_pos used]
    rfl
  rw [entryError, if_neg used]
  by_cases known : 4 < byteAt e 0
  · rw [entryChecks_of_unknown known, if_pos known]
    rfl
  rw [if_neg known]
  obtain ⟨code, kind⟩ | ⟨code, kind⟩ | ⟨code, kind⟩ | ⟨code, kind⟩ :=
    Kind.ofPointCode_cases used (Nat.not_lt.1 known)
  all_goals
    rw [firstError_entryChecks kind, code]
    simp only [explicitSettings, Settings.inRange, ← Bool.not_eq_true, Bool.and_eq_true, within_iff]
    simp only [reduceCtorEq, false_and, if_false, ne_eq, not_false_eq_true, not_true_eq_false, true_and, or_false,
      Nat.reduceEqDiff, forall_const, false_implies, and_true, and_assoc]

theorem firstError_entryBytes (b : List Byte) (p : Nat) : firstError (entryChecks (entryBytes b p)) =
    entryError (fun i => byteAt b (9 + 10 * (p - 1) + i)) (fun i => wordAt b (9 + 10 * (p - 1) + i)) := by
  rw [firstError_entry]
  simp only [entryError, byteAt_entryBytes b p (show 0 < 10 by decide), byteAt_entryBytes b p (show 5 < 10 by decide),
    byteAt_entryBytes b p (show 6 < 10 by decide), byteAt_entryBytes b p (show 7 < 10 by decide),
    byteAt_entryBytes b p (show 9 < 10 by decide), wordAt_entryBytes b p (show 1 + 1 < 10 by decide),
    wordAt_entryBytes b p (show 3 + 1 < 10 by decide), wordAt_entryBytes b p (show 6 + 1 < 10 by decide),
    wordAt_entryBytes b p (show 7 + 1 < 10 by decide)]

end Sys2Proof.Machine

/-!
PROOFS. The profile, continued: the checks of the whole image, what they do to the station, and the load (R58, R59,
R186 to R197).
-/
namespace Sys2Proof.Machine

/-! ### The points' configurations (R58, R188, R189) -/

theorem allPoints_nodup : allPoints.Nodup := allPoints_ascending.imp Nat.ne_of_lt

theorem getD_allPoints_map {α : Type} (f : Nat → α) {p : Nat} (hp : pointOk p = true) (d : α) :
    (allPoints.map f).getD (p - 1) d = f p := by
  have inside : 1 ≤ p ∧ p ≤ 64 := by simpa [pointOk] using hp
  have lt : p - 1 < (allPoints.map f).length := by simp [allPoints]; omega
  have back : p - 1 + 1 = p := by omega
  rw [List.getD_eq_getElem _ _ lt]
  simp [allPoints, back]

theorem readEntry_of_kind {e : List Byte} {k : Kind} (h : Kind.ofPointCode (byteAt e 0) = some k) : readEntry e =
    { kind := some k, group := wordAt e 1, parent := wordAt e 3, set := byteAt e 5
      settings := if byteAt e 5 = 0 then explicitSettings k e else preset k (byteAt e 5) } := by
  simp only [readEntry, h]

theorem readEntry_of_none {e : List Byte} (h : Kind.ofPointCode (byteAt e 0) = none) : readEntry e = .unused := by
  simp only [readEntry, h]

theorem Kind.ofPointCode_eq_supply (n : Nat) : Kind.ofPointCode n = some .supply ↔ n = 4 := by
  constructor
  · intro h
    unfold Kind.ofPointCode at h
    split at h <;> simp_all
  · rintro rfl
    rfl

theorem readEntry_supply_iff (e : List Byte) : (readEntry e).kind = some .supply ↔ byteAt e 0 = 4 := by
  rw [← Kind.ofPointCode_eq_supply]
  cases h : Kind.ofPointCode (byteAt e 0) with
  | none => rw [readEntry_of_none h]; rfl
  | some k => rw [readEntry_of_kind h]

theorem readEntry_group {e : List Byte} (h : byteAt e 0 = 4) : (readEntry e).group = wordAt e 1 := by
  rw [readEntry_of_kind ((Kind.ofPointCode_eq_supply _).2 h)]

theorem readProfile_point (b : List Byte) {p : Nat} (hp : pointOk p = true) :
    (readProfile b).point p = readEntry (entryBytes b p) := by
  have nonzero : p ≠ 0 := by rintro rfl; cases hp
  rw [Profile.point, if_neg nonzero, readProfile]
  exact getD_allPoints_map (fun p => readEntry (entryBytes b p)) hp _

theorem mem_supplyGroups_readProfile (b : List Byte) (g : Nat) : g ∈ (readProfile b).supplyGroups ↔
    ∃ p, pointOk p = true ∧ ((readProfile b).point p).kind = some .supply ∧ ((readProfile b).point p).group = g := by
  have points : (readProfile b).points = allPoints.map fun p => readEntry (entryBytes b p) := rfl
  simp only [Profile.supplyGroups, points, List.mem_map, List.mem_filter, decide_eq_true_eq]
  constructor
  · rintro ⟨c, ⟨⟨p, hp, rfl⟩, kind⟩, group⟩
    have ok := (mem_allPoints p).1 hp
    exact ⟨p, ok, by rwa [readProfile_point b ok], by rwa [readProfile_point b ok]⟩
  · rintro ⟨p, ok, kind, group⟩
    rw [readProfile_point b ok] at kind group
    exact ⟨_, ⟨⟨p, (mem_allPoints p).2 ok, rfl⟩, kind⟩, group⟩

/-- No group has two SUPPLY points (R190), entry by entry. -/
theorem supplyGroups_nodup_iff (b : List Byte) : (readProfile b).supplyGroups.Nodup ↔
    ∀ p q, 1 ≤ p → p < q → q ≤ 64 → byteAt (entryBytes b p) 0 = 4 → byteAt (entryBytes b q) 0 = 4 →
      wordAt (entryBytes b p) 1 ≠ wordAt (entryBytes b q) 1 := by
  have groups : (readProfile b).supplyGroups =
      (allPoints.filter fun p => decide (byteAt (entryBytes b p) 0 = 4)).map
        fun p => (readEntry (entryBytes b p)).group := by
    have points : (readProfile b).points = allPoints.map fun p => readEntry (entryBytes b p) := rfl
    rw [Profile.supplyGroups, points, List.filter_map, List.map_map]
    refine congrArg _ (List.filter_congr fun p _ => ?_)
    simp [readEntry_supply_iff]
  have mem (p : Nat) : p ∈ allPoints.filter (fun p => decide (byteAt (entryBytes b p) 0 = 4)) ↔
      (1 ≤ p ∧ p ≤ 64) ∧ byteAt (entryBytes b p) 0 = 4 := by
    rw [List.mem_filter, mem_allPoints]
    simp [pointOk]
  rw [groups, List.nodup_map_iff_inj_on (allPoints_nodup.filter _)]
  constructor
  · intro inj p q hp lt hq sp sq same
    refine absurd (inj p ((mem p).2 ⟨by omega, sp⟩) q ((mem q).2 ⟨by omega, sq⟩) ?_) (Nat.ne_of_lt lt)
    rw [readEntry_group sp, readEntry_group sq, same]
  · intro distinct p hp q hq same
    obtain ⟨⟨low, high⟩, sp⟩ := (mem p).1 hp
    obtain ⟨⟨low', high'⟩, sq⟩ := (mem q).1 hq
    rw [readEntry_group sp, readEntry_group sq] at same
    obtain lt | eq | gt := Nat.lt_trichotomy p q
    · exact absurd same (distinct p q low lt high' sp sq)
    · exact eq
    · exact absurd same.symm (distinct q p low' gt high sq sp)

/-! ### The checks of the image (R190) -/

/-- The station-wide settings lie in their ranges (R187). -/
def stationSettingsOk (b : List Byte) : Prop :=
  (1 ≤ byteAt b 1 ∧ byteAt b 1 ≤ 3) ∧ (1 ≤ byteAt b 2 ∧ byteAt b 2 ≤ 5) ∧ (60 ≤ wordAt b 3 ∧ wordAt b 3 ≤ 600) ∧
    (5 ≤ wordAt b 5 ∧ wordAt b 5 ≤ 300) ∧ (8 ≤ byteAt b 7 ∧ byteAt b 7 ≤ 31) ∧ (16 ≤ byteAt b 8 ∧ byteAt b 8 ≤ 60)

/-- The checks of the points, in order, and of their groups. -/
def pointChecks (b : List Byte) : List (Bool × ProfileError) :=
  allPoints.flatMap (fun p => entryChecks (entryBytes b p)) ++
    [(decide (readProfile b).supplyGroups.Nodup, .supplyDuplicate)]

section ImageChecks

variable {crc : Word16} {b : List Byte}

theorem firstError_of_crc (h : crc16 b ≠ crc) : firstError (imageChecks crc b) = .crc := by
  simp [imageChecks, firstError_cons, h]

variable (h : crc16 b = crc)
include h

theorem firstError_of_station (hn : stationOk (byteAt b 0) = false) :
    firstError (imageChecks crc b) = .stationNumber := by
  simp [imageChecks, firstError_cons, h, hn]

variable (hn : stationOk (byteAt b 0) = true)
include hn

theorem firstError_of_settings (hs : ¬stationSettingsOk b) : firstError (imageChecks crc b) = .range := by
  simp only [stationSettingsOk, ← within_iff] at hs
  simp only [imageChecks, firstError_cons, h, hn, List.cons_append, decide_true, if_true]
  by_contra other
  simp only [ite_eq_right_iff, not_forall, exists_prop] at other
  obtain ⟨h1, h2, h3, h5, h7, h8, -⟩ := other
  exact hs ⟨h1, h2, h3, h5, h7, h8⟩

theorem firstError_of_points (hs : stationSettingsOk b) :
    firstError (imageChecks crc b) = firstError (pointChecks b) := by
  simp only [stationSettingsOk, ← within_iff] at hs
  obtain ⟨h1, h2, h3, h5, h7, h8⟩ := hs
  simp only [imageChecks, firstError_cons, h, hn, h1, h2, h3, h5, h7, h8, List.cons_append, decide_true, if_true,
    List.nil_append]
  rfl

end ImageChecks

theorem Coded.append {l m : List (Bool × ProfileError)} (hl : Coded l) (hm : Coded m) : Coded (l ++ m) := by
  intro c hc
  obtain hc | hc := List.mem_append.1 hc
  · exact hl c hc
  · exact hm c hc

theorem firstError_pointChecks_of_failed {b : List Byte} {p : Nat} (hp : pointOk p = true)
    (fails : firstError (entryChecks (entryBytes b p)) ≠ .none)
    (before : ∀ q, 1 ≤ q → q < p → firstError (entryChecks (entryBytes b q)) = .none) :
    firstError (pointChecks b) = firstError (entryChecks (entryBytes b p)) := by
  refine firstError_flatMap_of_failed (fun p => entryChecks_coded _) allPoints_ascending ((mem_allPoints p).2 hp) fails
    fun q hq => before q ?_
  have point := (mem_allPoints q).1 hq
  simp [pointOk] at point
  exact point.1

theorem firstError_pointChecks_of_passed {b : List Byte}
    (h : ∀ p, pointOk p = true → firstError (entryChecks (entryBytes b p)) = .none) :
    firstError (pointChecks b) = if (readProfile b).supplyGroups.Nodup then .none else .supplyDuplicate := by
  refine (firstError_flatMap_of_passed (fun p => entryChecks_coded _) fun p hp => h p ((mem_allPoints p).1 hp)).trans ?_
  simp [firstError]

/-! ### A failed load (R190, R191, R195) -/

section Reports

variable {b : List Byte} {s : State} (hl : s.loader.state = .loading)
include hl

theorem profileHeaderTaken_of_waiting (hr : s.loader.reading = .header) : profileHeaderTaken b s =
    if wordAt b 0 ≠ 0x5A31 then s.halt .format 0
    else if wordAt b 2 ≠ 649 then s.halt .length 0
    else { s with loader := { s.loader with reading := .image (BitVec.ofNat 16 (wordAt b 4)) } } := by
  by_cases format : wordAt b 0 = 0x5A31
  · by_cases length : wordAt b 2 = 649
    · simp [profileHeaderTaken, hl, hr, headerChecks, firstError_cons, firstError, format, length, formatWord, imageLength]
    · simp [profileHeaderTaken, hl, hr, headerChecks, firstError_cons, firstError, format, length, formatWord, imageLength]
  · simp [profileHeaderTaken, hl, hr, headerChecks, firstError_cons, format, formatWord]

variable {crc : Word16} (hr : s.loader.reading = .image crc) (duskOn : Bool) (levels : BitVec 64)
include hr

theorem profileReadDone_of_error {e : ProfileError} (he : firstError (imageChecks crc b) = e) (hne : e ≠ .none) :
    profileReadDone b duskOn levels s = s.halt e (reportedNumber e b) := by
  simp only [profileReadDone, hl, hr, he]

theorem profileReadDone_of_good (he : firstError (imageChecks crc b) = .none) :
    profileReadDone b duskOn levels s = s.loadCompletes (readProfile b) duskOn levels := by
  simp only [profileReadDone, hl, hr, he]

end Reports

theorem profileHeaderTaken_of_not {b : List Byte} {s : State}
    (h : s.loader.state ≠ .loading ∨ s.loader.reading ≠ .header) : profileHeaderTaken b s = s :=
  if_neg fun both => h.elim (absurd both.1) (absurd both.2)

theorem profileReadDone_of_not {b : List Byte} {duskOn : Bool} {levels : BitVec 64} {s : State}
    (h : s.loader.state ≠ .loading ∨ ∀ crc, s.loader.reading ≠ .image crc) : profileReadDone b duskOn levels s = s := by
  unfold profileReadDone
  split
  next loading image => exact (h.elim (absurd loading) fun none => absurd image (none _))
  next => rfl

/-- The codes that report the station number (R191). -/
def ProfileError.numbered (e : ProfileError) : Prop :=
  e = .range ∨ e = .supplyNoGroup ∨ e = .supplyOwnParent ∨ e = .supplyDuplicate

theorem entryChecks_numbered (e : List Byte) : ∀ c ∈ entryChecks e, c.2.numbered := by
  unfold entryChecks
  split
  · exact nofun
  · intro c hc
    rw [List.mem_singleton.1 hc]
    exact .inl rfl
  · intro c hc
    simp only [List.mem_cons, List.not_mem_nil, or_false] at hc
    obtain rfl | rfl | rfl | rfl | rfl | rfl := hc
    all_goals simp [ProfileError.numbered]

/-- From the range checks on, a failure reports the station number (R191). -/
theorem reportedNumber_of_late {crc : Word16} {b : List Byte} (h : crc16 b = crc)
    (hn : stationOk (byteAt b 0) = true) (hne : firstError (imageChecks crc b) ≠ .none) :
    reportedNumber (firstError (imageChecks crc b)) b = byteAt b 0 := by
  have numbered : (firstError (imageChecks crc b)).numbered := by
    by_cases hs : stationSettingsOk b
    · rw [firstError_of_points h hn hs] at hne ⊢
      obtain ⟨c, mem, eq⟩ := List.mem_map.1 (firstError_mem hne)
      rw [← eq]
      obtain mem | mem := List.mem_append.1 mem
      · obtain ⟨p, -, mem⟩ := List.mem_flatMap.1 mem
        exact entryChecks_numbered _ c mem
      · rw [List.mem_singleton.1 mem]
        exact .inr (.inr (.inr rfl))
    · exact .inl (firstError_of_settings h hn hs)
  obtain e | e | e | e := numbered
  all_goals
    rw [e]
    rfl

/-- Settles O6: the header by its two checks, the image by the first of its checks that fails. -/
theorem profileIsChecked : Obligations.ProfileIsChecked := by
  refine ⟨fun b s hb hl hr => ?header, fun b duskOn levels crc s hb hl hr => ?image,
    fun crc b field word settings entry found hfield hword hsettings hentry hfound => ?checks,
    fun b s hb h => exec_yields (by simp [Instr.wellFormed, headerOk, hb]) (profileHeaderTaken_of_not h),
    fun b i => rfl⟩
  case header =>
    have taken := profileHeaderTaken_of_waiting (b := b) hl hr
    have ok : Instr.wellFormed (.profileHeaderTaken b) = true := by simp [Instr.wellFormed, headerOk, hb]
    refine ⟨fun format => exec_yields ok ?_, fun format length => exec_yields ok ?_,
      fun format length => exec_yields ok ?_⟩
    · exact taken.trans (if_pos format)
    · exact taken.trans ((if_neg (by simp [format])).trans (if_pos length))
    · exact taken.trans ((if_neg (by simp [format])).trans (if_neg (by simp [length])))
  case image =>
    have ok : Instr.wellFormed (.profileReadDone b duskOn levels) = true := by simp [Instr.wellFormed, imageOk, hb]
    refine ⟨fun h => exec_yields ok ?_, fun h hn => exec_yields ok ?_, fun h hn hne => exec_yields ok ?_⟩
    · exact profileReadDone_of_error hl hr duskOn levels (firstError_of_crc h) nofun
    · exact profileReadDone_of_error hl hr duskOn levels (firstError_of_station h hn) nofun
    · refine (profileReadDone_of_error hl hr duskOn levels rfl hne).trans ?_
      rw [reportedNumber_of_late h hn hne]
      rfl
  case checks =>
    have wide : settings = true ↔ stationSettingsOk b := by rw [hsettings, decide_eq_true_iff, stationSettingsOk]
    have entries (p : Nat) : firstError (entryChecks (entryBytes b p)) = entry p := by
      rw [firstError_entryBytes, hentry, hfield, hword]
      rfl
    have point {p : Nat} (low : 1 ≤ p) (high : p ≤ 64) : pointOk p = true := by simp [pointOk, low, high]
    refine ⟨fun h => hfound ▸ firstError_of_crc h, fun h hn => hfound ▸ firstError_of_station h hn,
      fun h hn hs => hfound ▸ firstError_of_settings h hn fun ok => ?_, fun h hn hs => ?points⟩
    · rw [wide.2 ok] at hs
      cases hs
    rw [hfound, firstError_of_points h hn (wide.1 hs)]
    refine ⟨fun p low high fails before => ?_, fun passed => ?_⟩
    · rw [← entries p] at fails ⊢
      exact firstError_pointChecks_of_failed (point low high) fails fun q hq lt => (entries q).trans (before q hq lt)
    · have all : ∀ p, pointOk p = true → firstError (entryChecks (entryBytes b p)) = .none := fun p hp => by
        obtain ⟨low, high⟩ : 1 ≤ p ∧ p ≤ 64 := by simpa [pointOk] using hp
        exact (entries p).trans (passed p low high)
      have bytes (p : Nat) : byteAt (entryBytes b p) 0 = field p 0 ∧ wordAt (entryBytes b p) 1 = word p 1 := by
        rw [hfield, hword, byteAt_entryBytes b p (by decide), wordAt_entryBytes b p (by decide)]
        exact ⟨rfl, rfl⟩
      have distinct := supplyGroups_nodup_iff b
      simp only [bytes] at distinct
      rw [firstError_pointChecks_of_passed all]
      refine ⟨fun ⟨p, q, low, lt, high, sp, sq, same⟩ => if_neg fun nodup => ?_, fun h => if_pos (distinct.2 h)⟩
      exact distinct.1 nodup p q low lt high sp sq same

end Sys2Proof.Machine

/-!
PROOFS. A good image completes the load (R58, R66, R188, R189, R194 to R197).
-/
namespace Sys2Proof.Machine

/-! ### What a good image says of each entry -/

theorem firstError_eq_none_iff {l : List (Bool × ProfileError)} (coded : Coded l) :
    firstError l = .none ↔ ∀ c ∈ l, c.1 = true := by
  induction l with
  | nil => exact ⟨fun _ => nofun, fun _ => rfl⟩
  | cons c l ih =>
    obtain ⟨ok, e⟩ := c
    have rest := ih fun c hc => coded c (List.mem_cons_of_mem _ hc)
    rw [firstError_cons_eq_none (coded _ List.mem_cons_self), rest, List.forall_mem_cons]

theorem imageChecks_coded (crc : Word16) (b : List Byte) : Coded (imageChecks crc b) := by
  refine (Coded.append ?_ fun c hc => ?_).append ?_
  · simp [Coded]
  · obtain ⟨p, -, mem⟩ := List.mem_flatMap.1 hc
    exact entryChecks_coded _ c mem
  · simp [Coded]

/-- In a good image every entry's checks pass. -/
theorem entryChecks_of_good {crc : Word16} {b : List Byte} (h : firstError (imageChecks crc b) = .none) {p : Nat}
    (hp : pointOk p = true) : ∀ c ∈ entryChecks (entryBytes b p), c.1 = true := fun c hc =>
  (firstError_eq_none_iff (imageChecks_coded crc b)).1 h c
    (List.mem_append_left _ (List.mem_append_right _ (List.mem_flatMap.2 ⟨p, (mem_allPoints p).2 hp, hc⟩)))

theorem code_le_of_passed {e : List Byte} (h : ∀ c ∈ entryChecks e, c.1 = true) : byteAt e 0 ≤ 4 := by
  by_contra unknown
  have failed := h (false, .range) (by rw [entryChecks_of_unknown (Nat.lt_of_not_le unknown)]; exact List.mem_cons_self)
  cases failed

theorem set_le_of_passed {e : List Byte} (h : ∀ c ∈ entryChecks e, c.1 = true) {k : Kind}
    (hk : Kind.ofPointCode (byteAt e 0) = some k) : byteAt e 5 ≤ 3 := by
  have passed := h (decide (byteAt e 5 ≤ 3), .range) (by rw [entryChecks_of_kind hk]; simp)
  exact of_decide_eq_true passed

/-- A settings set that is not 0 names one of three presets (R189). -/
theorem preset_cases (k : Kind) {n : Nat} (low : n ≠ 0) (high : n ≤ 3) : preset k n =
    if n = 1 then preset k 1 else if n = 2 then preset k 2 else preset k 3 := by
  obtain rfl | rfl | rfl : n = 1 ∨ n = 2 ∨ n = 3 := by omega
  all_goals rfl

theorem readEntry_settings {e : List Byte} (h : ∀ c ∈ entryChecks e, c.1 = true) {k : Kind}
    (hk : Kind.ofPointCode (byteAt e 0) = some k) : (readEntry e).settings =
      if byteAt e 5 = 0 then explicitSettings k e else if byteAt e 5 = 1 then preset k 1
        else if byteAt e 5 = 2 then preset k 2 else preset k 3 := by
  rw [readEntry_of_kind hk]
  by_cases explicit : byteAt e 5 = 0
  · rw [if_pos explicit, if_pos explicit]
  · rw [if_neg explicit, if_neg explicit, preset_cases k explicit (set_le_of_passed h hk)]

theorem loadCompletes_monitor (s : State) (f : Profile) (duskOn : Bool) (levels : BitVec 64) {p : Nat}
    (hp : pointOk p = true) : (s.loadCompletes f duskOn levels).field.monitor p =
      Monitor.start (f.point p).kind (levels.getLsbD (p - 1)) s.now := by
  have nonzero : p ≠ 0 := by rintro rfl; cases hp
  rw [Field.monitor, if_neg nonzero]
  exact getD_allPoints_map (fun p => Monitor.start (f.point p).kind (levels.getLsbD (p - 1)) s.now) hp _

/-- Settles O7: the load block by block, each point's configuration by its kind code. -/
theorem goodImageCompletesTheLoad : Obligations.GoodImageCompletesTheLoad := by
  refine ⟨fun b duskOn levels crc s hb hl hr good => ?load, fun b duskOn levels s hb h =>
    exec_yields (by simp [Instr.wellFormed, imageOk, hb]) (profileReadDone_of_not h), rfl⟩
  refine ⟨s.loadCompletes (readProfile b) duskOn levels, exec_yields (by simp [Instr.wellFormed, imageOk, hb])
    (profileReadDone_of_good hl hr duskOn levels good), rfl, ⟨_, rfl⟩, ?points, rfl, rfl, rfl, rfl, rfl, rfl, rfl, rfl,
    rfl, fun p => rfl, fun g => mem_supplyGroups_readProfile b g, rfl, rfl, rfl, rfl, rfl, rfl, rfl, ?discarded, rfl,
    rfl, rfl, rfl, rfl, rfl, rfl, rfl⟩
  case discarded =>
    simp only [State.loadCompletes_port, DispatcherPort.takeProfile]
    cases s.port.assembler with
    | gathering chars spoiled last => rfl
    | _ => exact (BitVec.add_zero _).symm
  case points =>
    intro p level field word c m hp hlevel hfield hword hc hm
    rw [loadCompletes_monitor s _ _ _ hp, ← hc, ← hlevel] at hm
    rw [readProfile_point b hp] at hc
    have passed := entryChecks_of_good good hp
    have byte {i : Nat} (hi : i < 10) : byteAt (entryBytes b p) i = field i := by
      rw [byteAt_entryBytes b p hi, hfield]
    have wordOf {i : Nat} (hi : i + 1 < 10) : wordAt (entryBytes b p) i = word i := by
      rw [wordAt_entryBytes b p hi, hword]
    have byte6 := byte (show 6 < 10 by decide)
    have byte7 := byte (show 7 < 10 by decide)
    have byte9 := byte (show 9 < 10 by decide)
    have word6 := wordOf (show 6 + 1 < 10 by decide)
    have word7 := wordOf (show 7 + 1 < 10 by decide)
    have code : byteAt (entryBytes b p) 0 = field 0 := byte (by decide)
    have ofCode {k : Kind} (hk : Kind.ofPointCode (field 0) = some k) :
        Kind.ofPointCode (byteAt (entryBytes b p) 0) = some k := by rw [code, hk]
    have config {k : Kind} (hk : Kind.ofPointCode (field 0) = some k) : c.kind = some k ∧ c.group = word 1 ∧
        c.parent = word 3 ∧ c.set = field 5 ∧ m = Monitor.start (some k) level s.now := by
      rw [hm, hc, readEntry_of_kind (ofCode hk)]
      exact ⟨rfl, wordOf (by decide), wordOf (by decide), byte (by decide), rfl⟩
    have settings {k : Kind} (hk : Kind.ofPointCode (field 0) = some k) : c.settings =
        if field 5 = 0 then explicitSettings k (entryBytes b p) else if field 5 = 1 then preset k 1
          else if field 5 = 2 then preset k 2 else preset k 3 := by
      rw [hc, readEntry_settings passed (ofCode hk), byte (show 5 < 10 by decide)]
    refine ⟨fun unused => ?_, fun used => ?_, fun lamp => ?_, fun loop => ?_, fun sign => ?_, fun supply => ?_⟩
    · have none : Kind.ofPointCode (byteAt (entryBytes b p) 0) = Option.none := by rw [code, unused]; rfl
      rw [hm, hc, readEntry_of_none none]
      exact ⟨rfl, rfl⟩
    · have known : field 0 ≤ 4 := code ▸ code_le_of_passed passed
      obtain ⟨-, kind⟩ | ⟨-, kind⟩ | ⟨-, kind⟩ | ⟨-, kind⟩ := Kind.ofPointCode_cases used known
      all_goals
        obtain ⟨-, group, parent, set, -⟩ := config kind
        exact ⟨group, parent, set⟩
    · have kind : Kind.ofPointCode (field 0) = some .lamp := by rw [lamp]; rfl
      obtain ⟨hkind, -, -, -, monitor⟩ := config kind
      refine ⟨hkind, monitor, (settings kind).trans (if_congr Iff.rfl ?_ rfl)⟩
      simp only [explicitSettings, byte6, byte9, word7]
    · have kind : Kind.ofPointCode (field 0) = some .loop := by rw [loop]; rfl
      obtain ⟨hkind, -, -, -, monitor⟩ := config kind
      refine ⟨hkind, monitor, (settings kind).trans (if_congr Iff.rfl ?_ rfl)⟩
      simp only [explicitSettings, byte6, byte9, word7]
    · have kind : Kind.ofPointCode (field 0) = some .sign := by rw [sign]; rfl
      obtain ⟨hkind, -, -, -, monitor⟩ := config kind
      refine ⟨hkind, monitor, (settings kind).trans (if_congr Iff.rfl ?_ rfl)⟩
      simp only [explicitSettings, word6]
    · have kind : Kind.ofPointCode (field 0) = some .supply := by rw [supply]; rfl
      obtain ⟨hkind, -, -, -, monitor⟩ := config kind
      refine ⟨hkind, monitor, (settings kind).trans (if_congr Iff.rfl ?_ rfl)⟩
      simp only [explicitSettings, byte6, byte7]

end Sys2Proof.Machine

/-!
PROOFS. The arbiter over the claims (R12), and the deadlines that fall due (R14, R25, R113).
-/
namespace Sys2Proof.Machine

/-! ### The arbiter (R12) -/

theorem State.claimsOpen_iff (s : State) : s.claimsOpen = true ↔
    s.loader.profile ≠ none ∧ ∀ r, s.loader.rejoin = some r → r.tableDone = true := by
  unfold State.claimsOpen
  rw [Bool.and_eq_true, State.running, Option.isSome_iff_ne_none]
  refine and_congr_right fun _ => ?_
  cases s.loader.rejoin <;> simp

theorem State.nextClaim_of_closed {s : State} (h : s.claimsOpen = false) : s.nextClaim = none := by
  rw [State.nextClaim, h]
  rfl

theorem State.framesOffered_eq (s : State) :
    s.framesOffered = if s.loader.rejoin = none then s.rx.queue else [] := by
  cases h : s.loader.rejoin <;> simp [State.framesOffered, State.rejoining, h]

section NextClaim

variable {s : State}

/-- The head of the own updates is taken first. -/
theorem State.nextClaim_of_update {k : Nat} {l : List Nat} (h : s.claimsOpen = true)
    (hu : s.origin.ownUpdates = k :: l) : s.nextClaim = some (.ownUpdate k) := by
  simp only [State.nextClaim, h, if_true, hu]

variable (hu : s.origin.ownUpdates = [])
include hu

theorem State.nextClaim_of_timer {c : TimerClaim} {l : List TimerClaim} (h : s.claimsOpen = true)
    (ht : s.table.timers = c :: l) : s.nextClaim = some (.timer c) := by
  simp only [State.nextClaim, h, if_true, hu, ht]

variable (ht : s.table.timers = [])
include ht

theorem State.nextClaim_of_event {e : RosterEvent} {l : List RosterEvent} (h : s.claimsOpen = true)
    (he : s.roster.events = e :: l) : s.nextClaim = some (.event e) := by
  simp only [State.nextClaim, h, if_true, hu, ht, he]

variable (he : s.roster.events = [])
include he

theorem State.nextClaim_of_frame {f : PeerFrame} {l : List PeerFrame} (h : s.claimsOpen = true)
    (hf : s.framesOffered = f :: l) : s.nextClaim = some (.frame f) := by
  simp only [State.nextClaim, h, if_true, hu, ht, he, hf]

variable (hf : s.framesOffered = [])
include hf

theorem State.nextClaim_of_page {src : DumpSource} {cur : Cursor} (h : s.claimsOpen = true)
    (hd : s.port.dump = .building src cur) : s.nextClaim = some (.page src cur) := by
  simp only [State.nextClaim, h, if_true, hu, ht, he, hf, hd]

theorem State.nextClaim_of_empty (hd : ∀ src cur, s.port.dump ≠ .building src cur) : s.nextClaim = none := by
  cases h : s.claimsOpen with
  | false => exact State.nextClaim_of_closed h
  | true =>
    simp only [State.nextClaim, h, if_true, hu, ht, he, hf]

end NextClaim

/-! ### A claim that is not the head (log 2) -/

section NotTheHead

variable {s : State}

theorem ownUpdate_of_not (h : ∀ k, s.nextClaim ≠ some (.ownUpdate k)) : ownUpdate s = s := by
  unfold ownUpdate
  split
  next k hk => exact absurd hk (h k)
  next => rfl

theorem lingerExpiry_of_not (h : ∀ d k, s.nextClaim ≠ some (.timer (.linger d k))) : lingerExpiry s = s := by
  unfold lingerExpiry
  split
  next d k hk => exact absurd hk (h d k)
  next => rfl

theorem graceExpiry_of_not (h : ∀ d g, s.nextClaim ≠ some (.timer (.grace d g))) : graceExpiry s = s := by
  unfold graceExpiry
  split
  next d g hg => exact absurd hg (h d g)
  next => rfl

theorem rosterEventSilent_of_not (h : ∀ n, s.nextClaim ≠ some (.event ⟨n, .silent⟩)) : rosterEventSilent s = s := by
  unfold rosterEventSilent
  split
  next n hn => exact absurd hn (h n)
  next => rfl

theorem rosterEventPresent_of_not (h : ∀ n, s.nextClaim ≠ some (.event ⟨n, .present⟩)) :
    rosterEventPresent s = s := by
  unfold rosterEventPresent
  split
  next n hn => exact absurd hn (h n)
  next => rfl

theorem recordFrame_of_not (h : ∀ n b, s.nextClaim ≠ some (.frame ⟨n, .record, b⟩)) : recordFrame s = s := by
  unfold recordFrame
  split
  next n b hn => exact absurd hn (h n b)
  next => rfl

theorem rollFrame_of_not (h : ∀ n b, s.nextClaim ≠ some (.frame ⟨n, .roll, b⟩)) : rollFrame s = s := by
  unfold rollFrame
  split
  next n b hn => exact absurd hn (h n b)
  next => rfl

theorem acknowledgeFrame_of_not (h : ∀ n b, s.nextClaim ≠ some (.frame ⟨n, .acknowledge, b⟩)) :
    acknowledgeFrame s = s := by
  unfold acknowledgeFrame
  split
  next n b hn => exact absurd hn (h n b)
  next => rfl

theorem pageBuild_of_not (h : ∀ src cur, s.nextClaim ≠ some (.page src cur)) : pageBuild s = s := by
  unfold pageBuild
  split
  next src cur hc => exact absurd hc (h src cur)
  next => rfl

end NotTheHead

/-- Settles O24: the sources in their order, and each claim command by whether its head is the choice. -/
theorem arbiterTakesTheFirstSource : Obligations.ArbiterTakesTheFirstSource := by
  intro s frames hframes
  obtain rfl : frames = s.framesOffered := by rw [hframes, State.framesOffered_eq]
  refine ⟨s.claimsOpen_iff, State.nextClaim_of_closed, State.nextClaim_of_empty, fun h => ⟨?_, ?_⟩,
    fun h => exec_yields rfl (ownUpdate_of_not h), fun h => exec_yields rfl (lingerExpiry_of_not h),
    fun h => exec_yields rfl (graceExpiry_of_not h), fun h => exec_yields rfl (rosterEventSilent_of_not h),
    fun h => exec_yields rfl (rosterEventPresent_of_not h), fun h => exec_yields rfl (recordFrame_of_not h),
    fun h => exec_yields rfl (rollFrame_of_not h), fun h => exec_yields rfl (acknowledgeFrame_of_not h),
    fun h => exec_yields rfl (pageBuild_of_not h)⟩
  · exact fun k l hu => State.nextClaim_of_update h hu
  · exact fun hu => ⟨fun c l ht => State.nextClaim_of_timer hu h ht, fun ht =>
      ⟨fun e l he => State.nextClaim_of_event hu ht h he, fun he =>
        ⟨fun f l hf => State.nextClaim_of_frame hu ht he h hf, fun hf src cur hd =>
          State.nextClaim_of_page hu ht he hf h hd⟩⟩⟩

/-! ### The waiting order of the timer expiries (R11, R14) -/

/-- The waiting order, by kinds: by deadline, lingers ahead of graces, then by key or group. -/
theorem TimerClaim.before_linger_linger (d e : Nat) (k j : Key) :
    (TimerClaim.linger d k).before (.linger e j) = true ↔
      d < e ∨ (d = e ∧ (k.origin < j.origin ∨ (k.origin = j.origin ∧ k.point < j.point))) := by
  rw [TimerClaim.before, Bool.or_eq_true, Bool.and_eq_true, decide_eq_true_iff, decide_eq_true_iff, Key.lt_iff]
  rfl

theorem TimerClaim.before_linger_grace (d e : Nat) (k : Key) (g : Nat) :
    (TimerClaim.linger d k).before (.grace e g) = true ↔ d ≤ e := by
  rw [TimerClaim.before, Bool.or_eq_true, Bool.and_eq_true, decide_eq_true_iff, decide_eq_true_iff, and_iff_left rfl]
  exact Nat.le_iff_lt_or_eq.symm

theorem TimerClaim.before_grace_linger (d e g : Nat) (k : Key) :
    (TimerClaim.grace d g).before (.linger e k) = true ↔ d < e := by
  rw [TimerClaim.before, Bool.or_eq_true, Bool.and_eq_true, decide_eq_true_iff]
  exact or_iff_left fun ⟨_, no⟩ => nomatch no

theorem TimerClaim.before_grace_grace (d e g h : Nat) :
    (TimerClaim.grace d g).before (.grace e h) = true ↔ d < e ∨ (d = e ∧ g < h) := by
  rw [TimerClaim.before, Bool.or_eq_true, Bool.and_eq_true, decide_eq_true_iff, decide_eq_true_iff, decide_eq_true_iff]
  rfl

/-- A timer claim that falls due joins once, ahead of the first that it comes before. -/
def TimerClaim.Joins (c : TimerClaim) (l l' : List TimerClaim) : Prop :=
  (c ∈ l ∧ l' = l) ∨ (c ∉ l ∧ ∃ front back, l = front ++ back ∧ l' = front ++ c :: back ∧
    (∀ x ∈ front, ¬c.before x = true) ∧ ∀ x, back.head? = some x → c.before x = true)

theorem State.addTimer_joins (s : State) (c : TimerClaim) : c.Joins s.table.timers (s.addTimer c).table.timers := by
  unfold State.addTimer
  split
  next waits => exact .inl ⟨by simpa using waits, rfl⟩
  next new =>
    obtain ⟨front, back, split, joined, front', back'⟩ := insertTimer_splits c s.table.timers
    exact .inr ⟨by simpa using new, front, back, split, joined, fun x hx => by simp [front' x hx], back'⟩

theorem State.addTimer_eq (s : State) (c : TimerClaim) :
    s.addTimer c = { s with table := { s.table with timers := (s.addTimer c).table.timers } } := by
  unfold State.addTimer
  split <;> rfl

/-! ### Silence (R113, R114) -/

theorem RosterUnit.windowOf_of_known {u : RosterUnit} {n : Nat} {e : RosterEntry} (h : u.find n = some e) (W : Nat) :
    u.windowOf W n = e.effective W := by
  simp only [RosterUnit.windowOf, h]

theorem RosterUnit.windowOf_of_unknown {u : RosterUnit} {n : Nat} (h : u.find n = none) (W : Nat) :
    u.windowOf W n = W := by
  simp only [RosterUnit.windowOf, h]

theorem RosterEntry.overdue_iff (e : RosterEntry) (W now : Nat) : e.overdue W now = true ↔
    e.state = .present ∧ e.lastHeard + 3 * (if e.window = 0 then W else e.window) ≤ now := by
  simp [RosterEntry.overdue, RosterEntry.effective]

theorem silenceDeadline_of_overdue {s : State} {n : Nat} {e : RosterEntry} (h : s.roster.find n = some e)
    (ho : e.overdue s.window s.nowSec = true) : silenceDeadline n s = { s with roster := s.roster.silence e } := by
  simp only [silenceDeadline, h, if_pos ho]

theorem silenceDeadline_of_not {s : State} {n : Nat}
    (h : ∀ e, s.roster.find n = some e → ¬e.overdue s.window s.nowSec = true) : silenceDeadline n s = s := by
  cases hf : s.roster.find n with
  | none => simp only [silenceDeadline, hf]
  | some e => simp only [silenceDeadline, hf, if_neg (h e hf)]

/-- An entry that is written over the one found there is found; every other lookup is as before. -/
theorem RosterUnit.find_put_of_some {u : RosterUnit} {n : Nat} {e e' : RosterEntry} (h : u.find n = some e)
    (same : e'.station = n) (m : Nat) : (u.put e').find m = if m = n then some e' else u.find m := by
  rw [RosterUnit.find_put]
  split
  next eq =>
    rw [eq, h, Option.map_some, if_pos ((RosterUnit.find_station h).trans same.symm)]
  next ne =>
    cases hm : u.find m with
    | none => rfl
    | some x =>
      have other : x.station ≠ e'.station := by rw [same, RosterUnit.find_station hm]; exact ne
      rw [Option.map_some, if_neg other]

theorem RosterUnit.find_silence {u : RosterUnit} {n : Nat} {e : RosterEntry} (h : u.find n = some e) (m : Nat) :
    (u.silence e).find m = if m = n then some { e with state := .silent } else u.find m := by
  rw [RosterUnit.silence, RosterUnit.find_makeEvent]
  have station : e.station = n := RosterUnit.find_station h
  exact RosterUnit.find_put_of_some (e' := { e with state := .silent }) h station m

theorem RosterUnit.silence_events (u : RosterUnit) (e : RosterEntry) : (u.silence e).events =
    if e.station ∈ u.events.map (·.station) then u.events.filter (fun x => decide (x.station ≠ e.station))
      else u.events ++ [⟨e.station, .silent⟩] := by
  rw [RosterUnit.silence, RosterUnit.makeEvent_events, RosterUnit.put_events]

/-! ### Lingers and graces (R25, R40) -/

theorem lingerDeadline_eq_some (W : Nat) (u : RosterUnit) (r : Record) (d : Nat) : lingerDeadline W u r = some d ↔
    r.state = .cleared ∧ ∃ at', r.clearedAt = some at' ∧ d = at' + u.windowOf W r.key.origin := by
  unfold lingerDeadline
  cases r.state <;> cases r.clearedAt <;> simp [eq_comm]

theorem lingerDeadlineDue_of_due {s : State} {o p d : Nat} {r : Record} (h : findRecord s.table.cft ⟨o, p⟩ = some r)
    (hd : lingerDeadline s.window s.roster r = some d) (ho : o ≠ s.own) (time : d ≤ s.nowSec) :
    lingerDeadlineDue o p s = s.addTimer (.linger d ⟨o, p⟩) := by
  simp only [lingerDeadlineDue, h, hd, if_pos (And.intro ho time)]

theorem lingerDeadlineDue_of_not {s : State} {o p : Nat} (h : ∀ r d, findRecord s.table.cft ⟨o, p⟩ = some r →
    lingerDeadline s.window s.roster r = some d → ¬(o ≠ s.own ∧ d ≤ s.nowSec)) : lingerDeadlineDue o p s = s := by
  unfold lingerDeadlineDue
  split
  next r hr =>
    split
    next d hd => exact if_neg (h r d hr hd)
    next => rfl
  next => rfl

theorem graceDeadlineDue_of_due {s : State} {g d : Nat} {e : GroupEntry} (h : findEntry s.table.groups g = some e)
    (hd : e.state = .returning d) (time : d ≤ s.nowSec) : graceDeadlineDue g s = s.addTimer (.grace d g) := by
  obtain ⟨group, state⟩ := e
  obtain rfl : state = .returning d := hd
  simp only [graceDeadlineDue, h, if_pos time]

theorem graceDeadlineDue_of_not {s : State} {g : Nat}
    (h : ∀ d, findEntry s.table.groups g = some ⟨g, .returning d⟩ → s.nowSec < d) : graceDeadlineDue g s = s := by
  unfold graceDeadlineDue
  split
  next group d hg =>
    obtain ⟨same, -⟩ := findEntry_some hg
    obtain rfl : group = g := same
    exact if_neg (Nat.not_le.2 (h d hg))
  next => rfl

/-- Settles O25: each deadline by whether it is reached, the timers by their place in the waiting order. -/
theorem deadlinesFallDue : Obligations.DeadlinesFallDue := by
  intro s earlier joins hearlier hjoins
  have order (a b : TimerClaim) : earlier a b ↔ a.before b = true := by
    rw [hearlier]
    cases a with
    | linger d k =>
      cases b with
      | linger e j => exact (TimerClaim.before_linger_linger d e k j).symm
      | grace e g => exact (TimerClaim.before_linger_grace d e k g).symm
    | grace d g =>
      cases b with
      | linger e j => exact (TimerClaim.before_grace_linger d e g j).symm
      | grace e h => exact (TimerClaim.before_grace_grace d e g h).symm
  obtain rfl : joins = TimerClaim.Joins := by
    rw [hjoins]
    simp only [order]
    rfl
  have windowIs (o : Nat) {W : Nat} (hW : W = s.roster.windowOf s.window o) (r : Record) (hr : r.key.origin = o) (d : Nat) :
      lingerDeadline s.window s.roster r = some d ↔ r.state = .cleared ∧ ∃ at', r.clearedAt = some at' ∧ d = at' + W := by
    rw [lingerDeadline_eq_some, hr, hW]
  refine ⟨fun n e hn h present time => ?silence, fun o p r at' window ho hp hown h cleared hat hwindow time => ?lingerDue,
    fun g d e hg h hd time => ?graceDue, fun n hn h => ?notSilence, fun o p ho hp h => ?notLinger, fun g hg h =>
    exec_yields hg (graceDeadlineDue_of_not h)⟩
  case silence =>
    have overdue : e.overdue s.window s.nowSec = true := (e.overdue_iff ..).2 ⟨present, time⟩
    have station : e.station = n := RosterUnit.find_station h
    refine ⟨_, exec_yields hn (silenceDeadline_of_overdue h overdue), rfl, ?_, fun m hm => ?_, ?_⟩
    · exact (RosterUnit.find_silence h n).trans (if_pos rfl)
    · exact (RosterUnit.find_silence h m).trans (if_neg hm)
    · exact station ▸ s.roster.silence_events e
  case lingerDue =>
    have stored : window = s.roster.windowOf s.window o := by
      rw [hwindow]
      cases hf : s.roster.find o with
      | none => rw [RosterUnit.windowOf_of_unknown hf]
      | some e => rw [RosterUnit.windowOf_of_known hf]; rfl
    obtain ⟨key, -⟩ := findRecord_some h
    have deadline : lingerDeadline s.window s.roster r = some (at' + window) :=
      (windowIs o stored r (by rw [key]) _).2 ⟨cleared, at', hat, rfl⟩
    exact ⟨_, exec_yields (by simp [Instr.wellFormed, ho, hp]) (lingerDeadlineDue_of_due h deadline hown time),
      s.addTimer_eq _, s.addTimer_joins _⟩
  case graceDue =>
    exact ⟨_, exec_yields hg (graceDeadlineDue_of_due h hd time), s.addTimer_eq _, s.addTimer_joins _⟩
  case notSilence =>
    refine exec_yields hn (silenceDeadline_of_not fun e hf overdue => ?_)
    obtain ⟨present, time⟩ := (e.overdue_iff ..).1 overdue
    exact absurd time (Nat.not_le.2 (h e hf present))
  case notLinger =>
    refine exec_yields (by simp [Instr.wellFormed, ho, hp]) (lingerDeadlineDue_of_not fun r d hr hd ⟨hown, time⟩ => ?_)
    obtain ⟨key, -⟩ := findRecord_some hr
    obtain ⟨cleared, at', hat, rfl⟩ := (lingerDeadline_eq_some ..).1 hd
    refine absurd time (Nat.not_le.2 (lt_of_lt_of_eq (h r at' hown hr cleared hat) ?_))
    rw [key]
    dsimp only
    cases hf : s.roster.find o with
    | none => rw [RosterUnit.windowOf_of_unknown hf]
    | some e => rw [RosterUnit.windowOf_of_known hf]; rfl

end Sys2Proof.Machine

/-!
PROOFS. The corridor line (chapter 6): runs, characters and echoes.
-/
namespace Sys2Proof.Machine

/-! ### Line time (R130, R131) -/

theorem State.passLine_zero (s : State) : s.passLine 0 = s := rfl

section ClosedRun

variable {s : State}

theorem State.closeRun_of_echo {r : Run} (hr : s.rx.run = some r) (he : r.echo = true) :
    s.closeRun = State.takeEcho { s with rx := { s.rx with run := none } } r := by
  simp only [State.closeRun, hr, he, if_true]

theorem State.closeRun_of_plain {r : Run} (hr : s.rx.run = some r) (he : r.echo = false) :
    s.closeRun = State.takeRun { s with rx := { s.rx with run := none } } r := by
  simp only [State.closeRun, hr, he, Bool.false_eq_true, if_false]

theorem State.attemptFail_rx (s : State) : s.attemptFail.rx = s.rx := by rw [State.attemptFail_frame]

theorem State.attemptFail_running (s : State) : s.attemptFail.running = s.running := by
  rw [State.running, State.running, s.attemptFail_failed.lineFrame.eq]

theorem State.takeEcho_run (s : State) (r : Run) : (s.takeEcho r).rx.run = s.rx.run := by
  unfold State.takeEcho
  split
  · split
    · rw [State.attemptSucceed, State.endSend_frame]
    · rw [State.attemptFail_rx]
  · rfl

theorem State.takeRun_run (s : State) (r : Run) : (s.takeRun r).rx.run = s.rx.run := by
  unfold State.takeRun
  split
  · rfl
  · rfl
  · split
    · rfl
    · simp only [State.frameArrives]
      repeat' split
      all_goals rfl

theorem State.closeRun_run (s : State) : s.closeRun.rx.run = none := by
  cases hr : s.rx.run with
  | none => simp only [State.closeRun, hr]
  | some r =>
    cases he : r.echo with
    | true => rw [State.closeRun_of_echo hr he, State.takeEcho_run]
    | false => rw [State.closeRun_of_plain hr he, State.takeRun_run]

theorem State.closeRun_running (s : State) : s.closeRun.running = s.running := by
  rw [State.running, State.running, (LineMoves.frame s.closeRun_moves).eq]

/-- No run is overdue. -/
theorem State.closeOverdue_of_kept (h : ∀ r, s.rx.run = some r → s.rx.clock ≤ r.last + 320) : s.closeOverdue = s := by
  cases hr : s.rx.run with
  | none => simp only [State.closeOverdue, hr]
  | some r =>
    simp only [State.closeOverdue, hr]
    exact if_neg (Nat.not_lt.2 (h r hr))

theorem State.closeOverdue_of_overdue {r : Run} (hr : s.rx.run = some r) (h : r.last + 320 < s.rx.clock) :
    s.closeOverdue = s.closeRun := by
  simp only [State.closeOverdue, hr]
  exact if_pos h

theorem State.closeOverdue_of_none (hr : s.rx.run = none) : s.closeOverdue = s :=
  State.closeOverdue_of_kept fun r some => by rw [hr] at some; cases some

end ClosedRun

/-! ### The characters of an attempt (R133, R141, R143) -/

section Characters

variable {s : State}

theorem State.failOverdue_of_resting (h : s.tx.state.isSending = false) : s.failOverdue = s := by
  unfold State.failOverdue
  split
  next a ha => rw [ha] at h; cases h
  next => rfl

theorem State.failOverdue_of_sending {a : Attempt} (h : s.tx.state = .sending a) : s.failOverdue =
    if a.returned < a.frame.length ∧ a.start + (a.returned + 1) * 160 + 320 < s.rx.clock then s.attemptFail else s := by
  simp only [State.failOverdue, h]
  rfl

theorem State.joinRun_of_none (h : s.rx.run = none) (char : Byte) (stopFound : Bool) : s.joinRun char stopFound =
    { s with rx := { s.rx with
      run := some ⟨[char], !stopFound, s.rx.clock, s.tx.state.isSending⟩, lastHeard := s.rx.clock } } := by
  simp only [State.joinRun, h]

theorem State.joinRun_of_some {r : Run} (h : s.rx.run = some r) (char : Byte) (stopFound : Bool) :
    s.joinRun char stopFound = { s with rx := { s.rx with
      run := some { r with chars := r.chars ++ [char], bad := r.bad || !stopFound, last := s.rx.clock }
      lastHeard := s.rx.clock } } := by
  simp only [State.joinRun, h]

theorem State.checkEcho_of_resting (h : s.tx.state.isSending = false) (char : Byte) (stopFound : Bool) :
    s.checkEcho char stopFound = s := by
  unfold State.checkEcho
  split
  next a _ ha _ => rw [ha] at h; cases h
  next => rfl

theorem State.checkEcho_of_echo {a : Attempt} {r : Run} (ha : s.tx.state = .sending a) (hr : s.rx.run = some r)
    (he : r.echo = true) (char : Byte) (stopFound : Bool) : s.checkEcho char stopFound =
      if a.returned < a.frame.length then
        if stopFound = true ∧ a.frame[a.returned]? = some char
          then { s with tx := { s.tx with state := .sending { a with returned := a.returned + 1 } } }
          else s.attemptFail
      else s := by
  simp only [State.checkEcho, ha, hr, he, Attempt.expects, Bool.true_and, Bool.and_eq_true, decide_eq_true_eq]

end Characters

section Commands

variable {s : State} (hrun : s.running = true) (dt : Nat)
include hrun

theorem lineCharacterHeard_eq (char : Byte) (stopFound : Bool) : lineCharacterHeard char stopFound dt s =
    ((s.passLine dt).closeOverdue.failOverdue.joinRun char stopFound).checkEcho char stopFound := by
  rw [lineCharacterHeard, if_pos hrun]

theorem runClose_of_over {r : Run} (hr : s.rx.run = some r) (h : r.last + 320 ≤ s.rx.clock + dt) :
    runClose dt s = (s.passLine dt).closeRun := by
  have held : (s.passLine dt).rx.run = some r := hr
  have past : r.last + Config.gapParts ≤ (s.passLine dt).rx.clock := h
  simp only [runClose, hrun, held, if_true, if_pos past]

theorem runClose_of_kept (h : ∀ r, s.rx.run = some r → s.rx.clock + dt < r.last + 320) :
    runClose dt s = s.passLine dt := by
  simp only [runClose, hrun, if_true]
  split
  next r hr => exact if_neg (Nat.not_le.2 (h r hr))
  next => rfl

theorem echoTimeout_of_resting (h : s.tx.state.isSending = false) : echoTimeout dt s = s.passLine dt := by
  simp only [echoTimeout, hrun, if_true]
  split
  next a ha =>
    have ha' : s.tx.state = .sending a := ha
    rw [ha'] at h
    cases h
  next => rfl

theorem echoTimeout_of_sending {a : Attempt} (ha : s.tx.state = .sending a) : echoTimeout dt s =
    if a.returned < a.frame.length ∧ a.start + (a.returned + 1) * 160 + 320 ≤ s.rx.clock + dt
      then (s.passLine dt).attemptFail else s.passLine dt := by
  have ha' : (s.passLine dt).tx.state = .sending a := ha
  simp only [echoTimeout, hrun, ha', if_true]
  rfl

/-- A run whose gap has passed closes before the character at hand (R131, log 3). -/
theorem lineCharacterHeard_of_overdue {r : Run} (hr : s.rx.run = some r) (h : r.last + 320 < s.rx.clock + dt)
    (char : Byte) (stopFound : Bool) :
    lineCharacterHeard char stopFound dt s = lineCharacterHeard char stopFound 0 (runClose dt s) := by
  have closed : (s.passLine dt).closeOverdue = (s.passLine dt).closeRun := State.closeOverdue_of_overdue hr h
  have run : (s.passLine dt).closeRun.running = true := (State.closeRun_running _).trans hrun
  rw [runClose_of_over hrun dt hr h.le, lineCharacterHeard_eq hrun, lineCharacterHeard_eq run, State.passLine_zero,
    closed, State.closeOverdue_of_none (State.closeRun_run _)]

end Commands

/-- With no profile in force the line is not read (R130, R195). -/
theorem running_eq_false {s : State} (h : s.loader.profile = none) : s.running = false := by
  rw [State.running, h]
  rfl

/-- Settles O34: a character by the run it meets. -/
theorem lineCharacterJoinsTheRun : Obligations.LineCharacterJoinsTheRun := by
  refine ⟨fun char stopFound dt c s hrun hc => ⟨fun resting => ⟨fun none => ?begins, fun r hr kept => ?joins⟩,
    fun r hr past => ?closes⟩, fun char stopFound dt i s none hi => ?unread⟩
  case begins =>
    refine exec_yields rfl ((lineCharacterHeard_eq hrun dt char stopFound).trans ?_)
    have resting' : (s.passLine dt).tx.state.isSending = false := resting
    have joined : ((s.passLine dt).joinRun char stopFound).tx.state.isSending = false := resting
    have none' : (s.passLine dt).rx.run = Option.none := none
    rw [State.closeOverdue_of_none none', State.failOverdue_of_resting resting', State.checkEcho_of_resting joined,
      State.joinRun_of_none none', resting', hc]
    rfl
  case joins =>
    refine exec_yields rfl ((lineCharacterHeard_eq hrun dt char stopFound).trans ?_)
    have resting' : (s.passLine dt).tx.state.isSending = false := resting
    have joined : ((s.passLine dt).joinRun char stopFound).tx.state.isSending = false := resting
    have hr' : (s.passLine dt).rx.run = some r := hr
    have kept' : ∀ x, (s.passLine dt).rx.run = some x → (s.passLine dt).rx.clock ≤ x.last + 320 := by
      intro x hx
      obtain rfl : r = x := Option.some.inj (hr'.symm.trans hx)
      rw [hc] at kept
      exact kept
    rw [State.closeOverdue_of_kept kept', State.failOverdue_of_resting resting', State.checkEcho_of_resting joined,
      State.joinRun_of_some hr', hc]
    rfl
  case closes =>
    rw [hc] at past
    refine ⟨_, exec_yields rfl rfl, ?_⟩
    rw [exec_of_wellFormed rfl, exec_of_wellFormed rfl]
    exact congrArg _ (lineCharacterHeard_of_overdue hrun dt hr past char stopFound)
  case unread =>
    have still := running_eq_false none
    simp only [List.mem_cons, List.not_mem_nil, or_false] at hi
    obtain rfl | rfl | rfl := hi
    all_goals
      refine exec_yields rfl ?_
      simp [effect, lineCharacterHeard, echoTimeout, runClose, still]

/-- Settles O36: a run that closes by whose echo it is, and by its judgement. -/
theorem closedRunIsTaken : Obligations.ClosedRunIsTaken := by
  refine ⟨fun dt c r s u hrun hr hc past hu => ?closes, fun dt s hrun kept =>
    exec_yields rfl (runClose_of_kept hrun dt kept)⟩
  have closes : runClose dt s = (s.passLine dt).closeRun := runClose_of_over hrun dt hr (hc ▸ past)
  have hr' : (s.passLine dt).rx.run = some r := hr
  have held : ({ s.passLine dt with rx := { (s.passLine dt).rx with run := none } } : State) = u := by
    rw [hu, hc]
    rfl
  have taken (he : r.echo = false) {t : State} (ht : u.takeRun r = t) : exec (.runClose dt) s = .next t := by
    refine exec_yields rfl (closes.trans ((State.closeRun_of_plain hr' he).trans ?_))
    rw [held, ht]
  refine ⟨fun he resting => ?_, fun he judged => taken he ?_, fun he judged => taken he ?_,
    fun f he judged own => taken he ?_, fun f he judged other => taken he ?_⟩
  · refine exec_yields rfl (closes.trans ((State.closeRun_of_echo hr' he).trans ?_))
    rw [held]
    have resting' : u.tx.state.isSending = false := by rw [hu]; exact resting
    unfold State.takeEcho
    split
    next a ha => rw [ha] at resting'; cases resting'
    next => rfl
  · simp only [State.takeRun, judged]
    rw [hu]
  · simp only [State.takeRun, judged]
    rw [hu]
  · have own' : f.sender = u.own := by rw [hu]; exact own
    simp only [State.takeRun, judged, if_pos own']
    rw [hu]
    rfl
  · have other' : f.sender ≠ u.own := by rw [hu]; exact other
    simp only [State.takeRun, judged, if_neg other']
    rw [hu]
    rfl

end Sys2Proof.Machine

/-!
PROOFS. The corridor line (chapter 6), continued: what decides an attempt, and where its results lead.
-/
namespace Sys2Proof.Machine

/-! ### The receiver's registers beside an attempt -/

section WithRx

variable (s : State) (x : LineReceiver)

theorem State.wake_withRx : State.wake { s with rx := x } = { s.wake with rx := x } := by
  rw [State.wake_eq, State.wake_eq]

theorem State.endSend_withRx : State.endSend { s with rx := x } = { s.endSend with rx := x } := by
  unfold State.endSend
  exact State.wake_withRx { s with tx := { s.tx with state := .idle, current := none } } x

theorem State.abandon_withRx (i : SendItem) : State.abandon { s with rx := x } i = { s.abandon i with rx := x } := by
  have item : State.abandonItem { s with rx := x } i = { s.abandonItem i with rx := x } := by
    cases i with
    | change k => rfl
    | refresh k => rfl
    | ack =>
      simp only [State.abandonItem]
      split <;> rfl
  rw [State.abandon_eq, State.abandon_eq, item]
  exact State.endSend_withRx (s.abandonItem i).countAbandoned x

theorem State.failCounted_withRx (h : x.clock = s.rx.clock) :
    State.failCounted { s with rx := x } = { s.failCounted with rx := x } := by
  have cutOff : State.cutOff { s with rx := x } = s.cutOff := by
    unfold State.cutOff
    rw [h]
  rw [State.failCounted, State.failCounted, cutOff]

/-- A failure reads nothing of the receiver but the line time. -/
theorem State.attemptFail_withRx (h : x.clock = s.rx.clock) :
    State.attemptFail { s with rx := x } = { s.attemptFail with rx := x } := by
  have counted := State.failCounted_withRx s x h
  cases hc : s.tx.current with
  | none => rw [State.attemptFail_of_none hc, State.attemptFail_of_none (s := { s with rx := x }) hc, counted]; rfl
  | some c =>
    cases hr : s.rejoining with
    | true =>
      rw [State.attemptFail_of_rejoining hr, State.attemptFail_of_rejoining (s := { s with rx := x }) hr, counted]
      rfl
    | false =>
      by_cases hn : s.tx.failures < 15
      · by_cases hf : c.fails + 1 < 8
        · cases hi : s.itemStands c.item with
          | true =>
            rw [State.attemptFail_of_stands hc hr hn hf hi,
              State.attemptFail_of_stands (s := { s with rx := x }) hc hr hn hf hi, counted]
            rfl
          | false =>
            rw [State.attemptFail_of_gone hc hr hn hf hi,
              State.attemptFail_of_gone (s := { s with rx := x }) hc hr hn hf hi, counted]
            exact State.endSend_withRx s.failCounted x
        · rw [State.attemptFail_of_eighth hc hr hn (Nat.not_lt.1 hf),
            State.attemptFail_of_eighth (s := { s with rx := x }) hc hr hn (Nat.not_lt.1 hf), counted]
          exact State.abandon_withRx s.failCounted x c.item
      · rw [State.attemptFail_of_last hc hr (Nat.not_lt.1 hn),
          State.attemptFail_of_last (s := { s with rx := x }) hc hr (Nat.not_lt.1 hn), counted]
        rfl

end WithRx

/-! ### The echo (R133, R141 to R143) -/

/-- A failure and a character that joins a run already held do not meet. -/
theorem State.joinRun_attemptFail {s : State} {r : Run} (hr : s.rx.run = some r) (char : Byte) (stopFound : Bool) :
    s.attemptFail.joinRun char stopFound = (s.joinRun char stopFound).attemptFail := by
  have held : s.attemptFail.rx.run = some r := by rw [State.attemptFail_rx, hr]
  rw [State.joinRun_of_some held, State.joinRun_of_some hr, State.attemptFail_rx]
  exact (State.attemptFail_withRx s { s.rx with
    run := some { r with chars := r.chars ++ [char], bad := r.bad || !stopFound, last := s.rx.clock }
    lastHeard := s.rx.clock } rfl).symm

/-- A character that meets an attempt joins or begins its echo run. -/
theorem State.joinRun_sending {s : State} {a : Attempt} (ha : s.tx.state = .sending a) {char : Byte} {stopFound : Bool}
    {joined : Run} (hj : s.rx.run = none ∧ joined = ⟨[char], !stopFound, s.rx.clock, true⟩ ∨
      ∃ r, s.rx.run = some r ∧ r.echo = true ∧
        joined = { r with chars := r.chars ++ [char], bad := r.bad || !stopFound, last := s.rx.clock }) :
    s.joinRun char stopFound =
      { s with rx := { s.rx with run := some joined, lastHeard := s.rx.clock } } ∧ joined.echo = true := by
  obtain ⟨none, rfl⟩ | ⟨r, hr, he, rfl⟩ := hj
  · rw [State.joinRun_of_none none, ha]
    exact ⟨rfl, rfl⟩
  · rw [State.joinRun_of_some hr]
    exact ⟨rfl, he⟩

theorem State.takeEcho_of_sending {s : State} {a : Attempt} (ha : s.tx.state = .sending a) (r : Run) : s.takeEcho r =
    if a.returned = a.frame.length ∧ r.chars.length = a.frame.length then s.attemptSucceed a else s.attemptFail := by
  simp only [State.takeEcho, ha]

theorem index_lt_of_getElem? {α : Type} {l : List α} {i : Nat} {x : α} (h : l[i]? = some x) : i < l.length := by
  by_contra past
  rw [List.getElem?_eq_none (Nat.not_lt.1 past)] at h
  cases h

/-- Settles O39: the character by what was expected, the late echo by the time, the run's close by what it holds. -/
theorem echoDecidesTheAttempt : Obligations.EchoDecidesTheAttempt := by
  refine ⟨fun a dt c s hrun ha hc => ⟨fun char stopFound joined u hj hu => ?character,
    fun char stopFound u none short late hu => ?late, fun u hu => ?timeout, fun r u hr he past hu => ?close⟩,
    fun dt s hrun resting => exec_yields rfl (echoTimeout_of_resting hrun dt resting)⟩
  case character =>
    generalize ht : s.passLine dt = t
    have clock : t.rx.clock = c := by rw [← ht, hc]; rfl
    have ha' : t.tx.state = .sending a := by rw [← ht]; exact ha
    have run : t.rx.run = s.rx.run := by rw [← ht]; rfl
    have hj' : t.rx.run = none ∧ joined = ⟨[char], !stopFound, t.rx.clock, true⟩ ∨
        ∃ r, t.rx.run = some r ∧ r.echo = true ∧
          joined = { r with chars := r.chars ++ [char], bad := r.bad || !stopFound, last := t.rx.clock } := by
      rw [run, clock]
      obtain first | ⟨r, hr, he, -, held⟩ := hj
      · exact .inl first
      · exact .inr ⟨r, hr, he, held⟩
    obtain ⟨joins, echo⟩ := State.joinRun_sending ha' hj'
    have met : t.joinRun char stopFound = u := by rw [joins, hu, clock, ← ht, hc]; rfl
    have kept : t.closeOverdue = t := State.closeOverdue_of_kept fun x hx => by
      rw [run] at hx
      rw [clock]
      obtain ⟨none, -⟩ | ⟨r, hr, -, inTime, -⟩ := hj
      · rw [none] at hx; cases hx
      · obtain rfl : r = x := Option.some.inj (hr.symm.trans hx)
        exact inTime
    have heard : lineCharacterHeard char stopFound dt s =
        (t.failOverdue.joinRun char stopFound).checkEcho char stopFound := by
      rw [lineCharacterHeard_eq hrun, ht, kept]
    have onTime (h : ¬(a.returned < a.frame.length ∧ a.start + (a.returned + 1) * 160 + 320 < c)) :
        lineCharacterHeard char stopFound dt s = u.checkEcho char stopFound := by
      rw [heard, State.failOverdue_of_sending ha', clock, if_neg h, met]
    have hrun' : u.rx.run = some joined := by rw [hu]
    have hsend : u.tx.state = .sending a := by rw [hu]; exact ha
    have echoed := State.checkEcho_of_echo hsend hrun' echo char stopFound
    refine ⟨fun stop same time => ?_, fun short wrong time => ?_, fun short late held => ?_, fun all => ?_⟩
    · refine exec_yields rfl ((onTime fun h => absurd time (Nat.not_le.2 h.2)).trans (echoed.trans ?_))
      rw [if_pos (index_lt_of_getElem? same), if_pos ⟨stop, same⟩, hu]
    · refine exec_yields rfl ((onTime fun h => absurd time (Nat.not_le.2 h.2)).trans (echoed.trans ?_))
      rw [if_pos short, if_neg]
      rintro ⟨stop, same⟩
      exact wrong.elim (fun lacks => by rw [stop] at lacks; cases lacks) (absurd same)
    · refine exec_yields rfl (heard.trans ?_)
      obtain ⟨r, hr⟩ : ∃ r, t.rx.run = some r := by rw [run]; exact Option.ne_none_iff_exists'.1 held
      rw [State.failOverdue_of_sending ha', clock, if_pos ⟨short, late⟩, State.joinRun_attemptFail hr, met,
        State.checkEcho_of_resting u.attemptFail_not_sending]
    · exact exec_yields rfl ((onTime fun h => absurd all (Nat.not_le.2 h.1)).trans
        (echoed.trans (if_neg (Nat.not_lt.2 all))))
  case late =>
    have passed : s.passLine dt = u := by rw [hu, hc]; rfl
    have hsend : u.tx.state = .sending a := by rw [hu]; exact ha
    have none' : u.rx.run = Option.none := by rw [hu]; exact none
    have clock : u.rx.clock = c := by rw [hu]
    have failed : u.attemptFail.rx.run = Option.none := by rw [State.attemptFail_rx, none']
    have run' : u.attemptFail.running = true := by rw [State.attemptFail_running, hu]; exact hrun
    refine ⟨_, rfl, u.attemptFail_not_sending, exec_yields rfl ?_, ?_⟩
    · refine (echoTimeout_of_sending hrun dt ha).trans ?_
      rw [passed, ← hc, if_pos ⟨short, late.le⟩]
    · rw [exec_of_wellFormed rfl, exec_of_wellFormed rfl]
      refine congrArg _ ?_
      simp only [effect]
      rw [lineCharacterHeard_eq hrun, lineCharacterHeard_eq run', passed, State.closeOverdue_of_none none',
        State.failOverdue_of_sending hsend, clock, if_pos ⟨short, late⟩, State.passLine_zero,
        State.closeOverdue_of_none failed, State.failOverdue_of_resting u.attemptFail_not_sending]
  case timeout =>
    have passed : s.passLine dt = u := by rw [hu, hc]; rfl
    have ends := echoTimeout_of_sending hrun dt ha
    rw [passed, ← hc] at ends
    refine ⟨fun short late => exec_yields rfl (ends.trans (if_pos ⟨short, late⟩)), fun other =>
      exec_yields rfl (ends.trans (if_neg fun both => ?_))⟩
    exact other.elim (fun all => absurd both.1 (Nat.not_lt.2 all)) fun early => absurd both.2 (Nat.not_le.2 early)
  case close =>
    have hr' : (s.passLine dt).rx.run = some r := hr
    have hsend : u.tx.state = .sending a := by rw [hu]; exact ha
    have held : ({ s.passLine dt with rx := { (s.passLine dt).rx with run := none } } : State) = u := by
      rw [hu, hc]
      rfl
    have closes : runClose dt s = u.takeEcho r := by
      rw [runClose_of_over hrun dt hr (hc ▸ past), State.closeRun_of_echo hr' he, held]
    rw [State.takeEcho_of_sending hsend] at closes
    refine ⟨fun all same => exec_yields rfl (closes.trans (if_pos ⟨all, same⟩)), fun other =>
      exec_yields rfl (closes.trans (if_neg fun both => ?_))⟩
    exact other.elim (absurd both.1) (absurd both.2)

end Sys2Proof.Machine

/-!
PROOFS. The corridor line (chapter 6), continued: the access moment, the results of a send, and the line's timers.
-/
namespace Sys2Proof.Machine

/-! ### The access moment (R137, R139, R141) -/

theorem State.requiredQuiet_eq (s : State) : s.requiredQuiet =
    (4 + (s.own + s.tx.turn.toNat) % 16 + (s.tx.current.map (·.backoff)).getD 0) * 160 := by
  unfold State.requiredQuiet State.stagger
  cases s.tx.current <;> rfl

section Access

variable {s : State}

theorem State.access_of_current {c : CurrentSend} {f : List Byte × Carried} (hc : s.tx.current = some c)
    (hf : s.buildFrame c.item = some f) : s.access = s.startAttempt c f := by
  simp only [State.access, hc, hf]

theorem State.access_of_gone {c : CurrentSend} (hc : s.tx.current = some c) (hf : s.buildFrame c.item = none) :
    s.access = s.endSend := by
  simp only [State.access, hc, hf]

theorem State.access_of_empty (hc : s.tx.current = none) (hi : s.chooseItem = none) : s.access = s.rest := by
  simp only [State.access, hc, hi, State.rest]

theorem State.access_of_item {i : SendItem} {f : List Byte × Carried} (hc : s.tx.current = none)
    (hi : s.chooseItem = some i) (hf : s.buildFrame i = some f) :
    s.access = (s.takeRefresh i).startAttempt { item := i, fails := 0, backoff := 0 } f := by
  simp only [State.access, hc, hi, hf]

/-- The item chosen, by the order of R139. -/
theorem State.chooseItem_eq_some {i : SendItem}
    (h : (∃ k, s.origin.changeQueue.find? s.urgent = some k ∧ i = .change k) ∨
      (s.origin.changeQueue.find? s.urgent = none ∧
        ((s.origin.ackSlot ≠ none ∧ i = .ack) ∨
          (s.origin.ackSlot = none ∧
            ((∃ k, s.origin.changeQueue.find? (fun k => !s.urgent k) = some k ∧ i = .change k) ∨
              (s.origin.changeQueue.find? (fun k => !s.urgent k) = none ∧
                ∃ k, s.origin.refreshDue = some k ∧ i = .refresh k)))))) : s.chooseItem = some i := by
  obtain ⟨k, urgent, rfl⟩ | ⟨none, ⟨some, rfl⟩ | ⟨noAck, ⟨k, ordinary, rfl⟩ | ⟨empty, k, due, rfl⟩⟩⟩ := h
  · simp only [State.chooseItem, urgent]
  · obtain ⟨a, ha⟩ := Option.ne_none_iff_exists'.1 some
    simp only [State.chooseItem, none, ha]
  · simp only [State.chooseItem, none, noAck, ordinary]
  · simp only [State.chooseItem, none, noAck, empty, due]

theorem State.chooseItem_eq_none (queue : s.origin.changeQueue = []) (ack : s.origin.ackSlot = none)
    (refresh : s.origin.refreshDue = none) : s.chooseItem = none := by
  simp [State.chooseItem, queue, ack, refresh]

end Access

theorem accessMoment_eq {s : State} (hrun : s.running = true) (dt : Nat) : accessMoment dt s =
    if (s.passLine dt).closeOverdue.mayAccess = true then (s.passLine dt).closeOverdue.access
      else (s.passLine dt).closeOverdue := by
  simp only [accessMoment, hrun, if_true]

/-- A run whose gap has passed closes before the access moment (R131, log 3). -/
theorem accessMoment_of_overdue {s : State} (hrun : s.running = true) (dt : Nat) {r : Run} (hr : s.rx.run = some r)
    (h : r.last + 320 < s.rx.clock + dt) : accessMoment dt s = accessMoment 0 (runClose dt s) := by
  have closed : (s.passLine dt).closeOverdue = (s.passLine dt).closeRun := State.closeOverdue_of_overdue hr h
  have run : (s.passLine dt).closeRun.running = true := (State.closeRun_running _).trans hrun
  rw [runClose_of_over hrun dt hr h.le, accessMoment_eq hrun, accessMoment_eq run, State.passLine_zero, closed,
    State.closeOverdue_of_none (State.closeRun_run _)]

theorem OriginUnit.openSet_eq (o : OriginUnit) : o.openSet =
    ((List.range 64).map (· + 1)).filter (fun p => decide (∃ r ∈ (o.slot p).record, r.state = .opened)) := by
  unfold OriginUnit.openSet allPoints
  refine List.filter_congr fun p _ => ?_
  cases h : (o.slot p).record <;> simp

/-- A refresh that is due counts as one slip at entry to MUTE (R148). -/
theorem withdrawnRefresh_eq (due : Option Nat) :
    (if due.isSome then 1 else 0 : Count) = if due = none then 0 else 1 := by
  cases due <;> rfl

/-- Settles O38: the access moment by the quiet, the current send and the item chosen; the frames by their item. -/
theorem accessMomentStartsAnAttempt : Obligations.AccessMomentStartsAnAttempt := by
  refine ⟨fun dt c quiet s u released inStep noRejoin hrun waiting hc kept hquiet hu hreleased => ?moment,
    fun s tag age htag hage => ?frames, fun dt s => ⟨fun none => ?unread, fun hrun => ⟨fun others kept => ?others,
      fun r hr past => ⟨_, exec_yields rfl rfl, ?closes⟩⟩⟩⟩
  case moment =>
    have passed : (s.passLine dt).closeOverdue = u := by
      have same : s.passLine dt = u := by rw [hu, hc]; rfl
      rw [same]
      refine State.closeOverdue_of_kept fun x hx => ?_
      rw [hu] at hx ⊢
      exact kept x hx
    have moment : accessMoment dt s = if u.mayAccess = true then u.access else u := by
      rw [accessMoment_eq hrun, passed]
    have quietIs : u.requiredQuiet = quiet := by
      rw [hu, State.requiredQuiet_eq, hquiet]
      rfl
    have may : u.mayAccess = true ↔ s.rx.lastHeard + quiet ≤ c ∧ released := by
      rw [State.mayAccess_iff, quietIs, hreleased, State.outputFree_iff, hu]
      exact ⟨fun ⟨_, _, _, quiet, free⟩ => ⟨quiet, free⟩, fun ⟨quiet, free⟩ => ⟨inStep, noRejoin, waiting, quiet, free⟩⟩
    have accesses (time : s.rx.lastHeard + quiet ≤ c) (free : released) {t : State} (ht : u.access = t) :
        exec (.accessMoment dt) s = .next t :=
      exec_yields rfl ((moment.trans (if_pos (may.2 ⟨time, free⟩))).trans ht)
    have current : u.tx.current = s.tx.current := by rw [hu]
    have builds (i : SendItem) : u.buildFrame i = s.buildFrame i := by
      rw [hu]
      rfl
    refine ⟨fun early => ?_, fun cur fr time free hcur hf => accesses time free ?_, fun cur time free hcur hf =>
      accesses time free ?_, fun time free none queue ack refresh => accesses time free ?_,
      fun i fr time free none hf choice => accesses time free ?_⟩
    · refine exec_yields rfl (moment.trans (if_neg fun both => ?_))
      obtain ⟨time, free⟩ := may.1 both
      exact early.elim (fun lt => absurd time (Nat.not_le.2 lt)) (absurd free)
    · rw [State.access_of_current (current.trans hcur) ((builds _).trans hf), hu]
      rfl
    · rw [State.access_of_gone (current.trans hcur) ((builds _).trans hf), State.endSend_frame, State.endSend_state, hu]
      simp only [inStep, true_and]
    · rw [State.access_of_empty (current.trans none), hu]
      · rfl
      · rw [hu]
        exact State.chooseItem_eq_none queue ack refresh
    · have chosen : u.chooseItem = some i := by
        rw [hu]
        exact State.chooseItem_eq_some (s := { s with rx := { s.rx with clock := c } }) choice
      rw [State.access_of_item (current.trans none) chosen ((builds _).trans hf), hu]
      cases i <;> rfl
  case frames =>
    have tagIs : s.tag = tag := by rw [State.tag, htag]; rfl
    have ages : s.ageOfRecord = age := by rw [hage]; rfl
    have roll : s.buildRoll = (frameChars s.own .roll (writeRoll tag s.window
        (((List.range 64).map (· + 1)).filter (fun p => decide (∃ r ∈ (s.origin.slot p).record, r.state = .opened)))
        ((s.origin.slot 0).record.map (fun r => (r, age r)))),
      .roll ((s.origin.slot 0).record.map (·.version)) (s.origin.slot 0).version) := by
      rw [State.buildRoll, tagIs, ages, OriginUnit.openSet_eq]
    refine ⟨fun i hi => ?_, fun k refresh i hk hi => ?_, rfl⟩
    · rw [← roll]
      simp only [List.mem_cons, List.not_mem_nil, or_false] at hi
      obtain rfl | rfl := hi
      all_goals rfl
    · rw [← tagIs, ← ages]
      obtain ⟨rfl, rfl⟩ | ⟨rfl, rfl⟩ := hi
      all_goals exact if_neg hk
  case unread =>
    refine exec_yields rfl ?_
    simp [effect, accessMoment, running_eq_false none]
  case others =>
    have same : (s.passLine dt).closeOverdue = s.passLine dt := State.closeOverdue_of_kept kept
    refine exec_yields rfl ((accessMoment_eq hrun dt).trans ?_)
    rw [same]
    refine if_neg fun may => ?_
    obtain ⟨inStep, noRejoin, waiting, -⟩ := (State.mayAccess_iff _).1 may
    exact others.elim (absurd inStep) fun h => h.elim (absurd noRejoin) (absurd waiting)
  case closes =>
    rw [exec_of_wellFormed rfl, exec_of_wellFormed rfl]
    exact congrArg _ (accessMoment_of_overdue hrun dt hr past)

/-! ### A failed attempt (R140, R143, R146 to R148, R152) -/

theorem State.attemptFail_turn (s : State) : s.attemptFail.tx.turn = s.tx.turn := by
  unfold State.attemptFail State.enterMute State.abandon
  dsimp only
  repeat' split
  all_goals first | rfl | (rw [State.endSend_frame])

theorem State.attemptFail_failures (s : State) : s.attemptFail.tx.failures = min (s.tx.failures + 1) 16 := by
  unfold State.attemptFail State.enterMute State.abandon
  dsimp only
  repeat' split
  all_goals first
    | rfl
    | (rw [State.endSend_frame])
    | exact Eq.symm ‹_›

theorem State.itemStands_iff (s : State) (i : SendItem) : s.itemStands i = true ↔
    (∀ k, i = .change k → k ∈ s.origin.changeQueue) ∧
      (∀ k, i = .refresh k → k = 0 ∨ (s.origin.slot k).record ≠ none) ∧ (i = .ack → s.origin.ackSlot ≠ none) := by
  cases i <;> simp [State.itemStands, Option.isSome_iff_ne_none]

section AbandonItem

variable (s : State) (i : SendItem)

theorem State.abandonItem_loader : (s.abandonItem i).loader = s.loader := by
  cases i with
  | change k => rfl
  | refresh k => rfl
  | ack =>
    simp only [State.abandonItem]
    split <;> rfl

/-- An abandoned send rests or waits, as its items left it. -/
theorem State.abandon_frame : s.abandon i = { s.abandonItem i with tx := { s.tx with
    state := if s.loader.state = .inStep ∧ ((s.abandonItem i).origin.changeQueue ≠ [] ∨
        (s.abandonItem i).origin.ackSlot ≠ none ∨ (s.abandonItem i).origin.refreshDue ≠ none)
      then .waiting else .idle
    current := none, abandoned := s.tx.abandoned + 1 } } := by
  have loader := s.abandonItem_loader i
  have tx := State.abandonItem_tx s i
  rw [State.abandon_eq, State.endSend_frame, State.endSend_state]
  simp only [State.countAbandoned, loader, tx]

end AbandonItem

theorem drawBackoff_eq (ix n : Nat) : ∃ r, r < 2 ^ min n 5 ∧ drawBackoff ix n = r * 16 :=
  ⟨_, Nat.mod_lt _ (Nat.two_pow_pos _), rfl⟩

/-- Settles O40: the failure by the counts and the item, the cut-off by the time. -/
theorem failedAttemptIsRetriedAbandonedOrMutes : Obligations.FailedAttemptIsRetriedAbandonedOrMutes := by
  refine ⟨fun cur n s t hc noRejoin hn ht => ?failed, fun cur s hc hr => ?rejoining, fun a s ha => ?cut⟩
  case cut =>
    rw [State.attemptFail_outEnd, State.cutOff, ha]
    rfl
  case rejoining =>
    have rejoins : s.rejoining = true := by
      rw [State.rejoining, Option.isSome_iff_ne_none]
      exact hr
    rw [State.attemptFail_outEnd, State.attemptFail_of_rejoining rejoins]
    rfl
  case failed =>
    have hr : s.rejoining = false := by rw [State.rejoining, noRejoin]; rfl
    have frame := State.attemptFail_frame s
    have fewer (h : n < 16) : s.tx.failures < 15 := by omega
    refine ⟨by rw [ht, State.attemptFail_collisions], by rw [ht, State.attemptFail_failures, hn],
      by rw [ht, State.attemptFail_turn], by rw [ht, frame], by rw [ht, frame], by rw [ht, frame], by rw [ht, frame],
      by rw [ht, frame], by rw [ht, frame], fun last => ?mute, fun h => ?kept, fun h eighth => ?abandoned,
      fun h hf stands => ?retried, fun h hf gone => ?ended, s.itemStands_iff cur.item⟩
    case mute =>
      have last' : 15 ≤ s.tx.failures := by omega
      rw [ht, State.attemptFail_of_last hc hr last']
      refine ⟨rfl, rfl, rfl, rfl, rfl, rfl, rfl, rfl, ?_⟩
      unfold State.enterMute
      dsimp only
      rw [withdrawnRefresh_eq]
      rfl
    case kept =>
      by_cases hf : cur.fails + 1 < 8
      · cases hi : s.itemStands cur.item with
        | true =>
          rw [ht, State.attemptFail_of_stands hc hr (fewer h) hf hi]
          exact ⟨rfl, rfl, rfl, rfl⟩
        | false =>
          rw [ht, State.attemptFail_of_gone hc hr (fewer h) hf hi, State.endSend_frame]
          exact ⟨rfl, rfl, rfl, rfl⟩
      · rw [ht, State.attemptFail_of_eighth hc hr (fewer h) (Nat.not_lt.1 hf), State.abandon_frame]
        exact ⟨State.abandonItem_loader .., rfl, rfl, rfl⟩
    case abandoned =>
      rw [ht, State.attemptFail_of_eighth hc hr (fewer h) eighth, State.abandon_frame]
      refine ⟨rfl, rfl, rfl, fun k hk => ?_, fun a hk ha => ?_, fun hk none => ?_, fun k hk => ?_⟩
      · rw [hk]
        exact ⟨rfl, rfl⟩
      · have ha' : s.failCounted.origin.ackSlot = some a := ha
        simp only [hk, State.abandonItem, ha']
        exact ⟨rfl, rfl⟩
      · have none' : s.failCounted.origin.ackSlot = Option.none := none
        simp only [hk, State.abandonItem, none']
        exact ⟨rfl, rfl⟩
      · rw [hk]
        exact ⟨rfl, rfl⟩
    case retried =>
      obtain ⟨r, bound, draw⟩ := drawBackoff_eq s.freeIx (cur.fails + 1)
      rw [ht, State.attemptFail_of_stands hc hr (fewer h) hf stands]
      refine ⟨rfl, rfl, rfl, rfl, r, bound, ?_⟩
      rw [← draw]
      rfl
    case ended =>
      rw [ht, State.attemptFail_of_gone hc hr (fewer h) hf gone, State.endSend_frame, State.endSend_state]
      exact ⟨rfl, rfl, rfl, rfl, rfl⟩

/-! ### A successful attempt (R142, R144, R145, R150) -/

theorem OriginUnit.matches_record_iff (o : OriginUnit) (k : Nat) (v : Version) :
    o.matches (.record k v) = true ↔ ∃ r, (o.slot k).record = some r ∧ r.version = v := by
  unfold OriginUnit.matches
  dsimp only
  cases (o.slot k).record <;> simp

theorem OriginUnit.matches_part_iff (o : OriginUnit) (v counter : Version) :
    o.matches (.roll (some v) counter) = true ↔ ∃ r, (o.slot 0).record = some r ∧ r.version = v := by
  unfold OriginUnit.matches
  dsimp only
  cases (o.slot 0).record <;> simp

theorem OriginUnit.matches_empty_iff (o : OriginUnit) (counter : Version) :
    o.matches (.roll none counter) = true ↔ (o.slot 0).record = none ∧ (o.slot 0).version = counter := by
  simp [OriginUnit.matches]

section Succeed

variable {o : OriginUnit} {c : Carried} {k : Nat} {announce : Bool} (slot : c.slot = some (k, announce))
include slot

theorem OriginUnit.succeed_of_not (h : ¬o.matches c = true) : o.succeed c = o := by
  simp only [OriginUnit.succeed, slot, if_neg h]

theorem OriginUnit.succeed_of_matches (h : o.matches c = true) : o.succeed c =
    { o with
      slots := if announce then o.slots.set k { o.slot k with announced := true } else o.slots
      changeQueue := o.changeQueue.filter (fun j => decide (j ≠ k)) } := by
  simp only [OriginUnit.succeed, slot, if_pos h]
  cases announce <;> rfl

end Succeed

/-- Settles O41: the transmitter's part at once, the Origin Unit's by what the frame carried. -/
theorem successfulAttemptClosesTheSend : Obligations.SuccessfulAttemptClosesTheSend := by
  rintro a s t len rfl
  have origin : (s.attemptSucceed a).origin = s.origin.succeed a.carried := by
    rw [State.attemptSucceed, State.endSend_frame]
  have announced {k : Nat} {v : Version} (hk : k ≤ 64)
      (slot : a.carried.slot = some (k, true))
      (fits : s.origin.matches a.carried = true ↔ ∃ r, (s.origin.slot k).record = some r ∧ r.version = v) :
      ((∃ r, (s.origin.slot k).record = some r ∧ r.version = v) →
        (s.attemptSucceed a).origin.slot k = { s.origin.slot k with announced := true } ∧
        (∀ j, j ≠ k → (s.attemptSucceed a).origin.slot j = s.origin.slot j) ∧
        (s.attemptSucceed a).origin = { s.origin with
          slots := (s.attemptSucceed a).origin.slots
          changeQueue := s.origin.changeQueue.filter (fun j => decide (j ≠ k)) }) ∧
      ((∀ r, (s.origin.slot k).record = some r → r.version ≠ v) → (s.attemptSucceed a).origin = s.origin) := by
    rw [origin]
    refine ⟨fun match' => ?_, fun other => OriginUnit.succeed_of_not slot fun match' => ?_⟩
    · rw [OriginUnit.succeed_of_matches slot (fits.2 match'), if_pos rfl]
      have slots (j : Nat) := OriginUnit.slot_setSlot s.origin k j { s.origin.slot k with announced := true } (by omega)
      exact ⟨(slots k).trans (if_pos rfl), fun j hj => (slots j).trans (if_neg hj), rfl⟩
    · obtain ⟨r, hr, version⟩ := fits.1 match'
      exact other r hr version
  refine ⟨?frame, ?turn, ?failures, ?current, ?awaited, ?state, ?clearEnd, ?collisions, ?abandoned, ?muteEnd,
    fun k v hk carried => ?record, fun counter carried => ?empty, fun carried => ?ack⟩
  case state =>
    rw [origin, State.attemptSucceed, State.endSend_state]
  case record =>
    obtain carried | ⟨rfl, counter, carried⟩ := carried
    · exact announced hk (by rw [carried]; rfl) (by rw [carried]; exact s.origin.matches_record_iff k v)
    · exact announced hk (by rw [carried]; rfl) (by rw [carried]; exact s.origin.matches_part_iff v counter)
  case empty =>
    have slot : a.carried.slot = some (0, false) := by rw [carried]; rfl
    have fits := s.origin.matches_empty_iff counter
    rw [← carried] at fits
    rw [origin]
    exact ⟨fun h => (OriginUnit.succeed_of_matches slot (fits.2 h)).trans rfl,
      fun h => OriginUnit.succeed_of_not slot fun match' => h (fits.1 match')⟩
  case ack => rw [origin, carried]; rfl
  case clearEnd =>
    rw [State.attemptSucceed, State.endSend_frame]
    rfl
  all_goals rw [State.attemptSucceed, State.endSend_frame]

/-! ### The line's timers (R135, R149, R150) -/

/-- Settles O42: each timer by whether it has ended. -/
theorem lineTimersEnd : Obligations.LineTimersEnd := by
  have ended {e now : Nat} {timer : Option Nat} (h : timer = some e) (time : e ≤ now) : due timer now = true :=
    (due_iff ..).2 ⟨e, h, time⟩
  have running {now : Nat} {timer : Option Nat} (h : ∀ e, timer = some e → now < e) : ¬due timer now = true := by
    rw [due_iff]
    rintro ⟨e, he, time⟩
    exact absurd time (Nat.not_le.2 (h e he))
  refine ⟨fun e s time => ⟨fun h => exec_yields rfl (if_pos (ended h time)),
    fun h => exec_yields rfl (if_pos (ended h time)), fun h mute idle => exec_yields rfl ?mute⟩,
    fun s => ⟨fun h => exec_yields rfl (if_neg (running h)), fun h => exec_yields rfl (if_neg (running h)),
      fun h => exec_yields rfl ?stays⟩⟩
  case mute =>
    have tests : (due s.tx.muteEnd s.now && s.loader.state = .mute) = true := by simp [ended h time, mute]
    simp only [effect, muteEnd, if_pos tests]
    rw [State.wake_eq]
    simp [idle]
  case stays =>
    obtain same | ⟨mute, ⟨e, he, time⟩, -⟩ := muteEnd_cases s
    · exact same
    · exact absurd mute (h.resolve_right fun runs => absurd time (Nat.not_le.2 (runs e he)))

end Sys2Proof.Machine

/-!
PROOFS. The corridor line's frames (chapter 10): the judgement of a run, the CRC, and the frames this station sends.
-/
namespace Sys2Proof.Machine

/-! ### The judgement of a run (R132) -/

/-- Every check of R132 but the kind's passes. -/
structure RunSound (lacked : Bool) (chars : List Byte) : Prop where
  stops : lacked = false
  length : chars.length = 6 + byteAt chars 3
  most : byteAt chars 3 ≤ 56
  sync : chars.head? = some syncByte
  crc : (crc16 ((chars.drop 1).take (3 + byteAt chars 3))).toNat = wordAt chars (4 + byteAt chars 3)
  sender : stationOk (byteAt chars 1) = true

theorem judgeRun_of_unsound {lacked : Bool} {chars : List Byte} (h : ¬RunSound lacked chars) :
    judgeRun lacked chars = .bad := by
  unfold judgeRun
  dsimp only
  split
  next => rfl
  next stops =>
    repeat' split
    all_goals first
      | rfl
      | exact absurd ⟨by simpa using stops, by omega, by omega, by simp_all, by simp_all, by simp_all⟩ h

section Sound

variable {lacked : Bool} {chars : List Byte} (h : RunSound lacked chars)
include h

theorem judgeRun_of_unknown (hk : FrameKind.ofCode (byteAt chars 2) = none) :
    judgeRun lacked chars = .unknownKind := by
  obtain ⟨stops, length, most, sync, crc, sender⟩ := h
  have six : ¬chars.length < 6 := by omega
  simp only [judgeRun, stops, Bool.false_eq_true, if_false, if_neg six, sync, ne_eq, not_true_eq_false,
    if_neg (Nat.not_lt.2 most), ← length, crc, sender, Bool.not_true, hk]

theorem judgeRun_of_known {k : FrameKind} (hk : FrameKind.ofCode (byteAt chars 2) = some k) :
    judgeRun lacked chars = if k.lengthOk (byteAt chars 3) = true
      then .valid { sender := byteAt chars 1, kind := k, body := (chars.drop 4).take (byteAt chars 3) } else .bad := by
  obtain ⟨stops, length, most, sync, crc, sender⟩ := h
  have six : ¬chars.length < 6 := by omega
  simp only [judgeRun, stops, Bool.false_eq_true, if_false, if_neg six, sync, ne_eq, not_true_eq_false,
    if_neg (Nat.not_lt.2 most), ← length, crc, sender, Bool.not_true, hk]

end Sound

theorem FrameKind.ofCode_eq_some (n : Nat) (k : FrameKind) : FrameKind.ofCode n = some k ↔
    n = 1 ∧ k = .roll ∨ n = 2 ∧ k = .record ∨ n = 3 ∧ k = .acknowledge := by
  unfold FrameKind.ofCode
  split <;> simp_all [eq_comm]

theorem FrameKind.ofCode_eq_none (n : Nat) : FrameKind.ofCode n = none ↔ n = 0 ∨ 3 < n := by
  rcases Nat.lt_or_ge 3 n with past | within
  · refine ⟨fun _ => .inr past, fun _ => Option.eq_none_iff_forall_ne_some.2 fun k hk => ?_⟩
    rw [FrameKind.ofCode_eq_some] at hk
    omega
  · obtain rfl | rfl | rfl | rfl : n = 0 ∨ n = 1 ∨ n = 2 ∨ n = 3 := by omega
    all_goals simp [FrameKind.ofCode]

/-! ### The CRC (R134) -/

theorem crcBit_eq (reg : Word16) (bit : Bool) :
    crcBit reg bit = if reg.getMsbD 0 ≠ bit then (reg <<< 1) ^^^ 0x1021 else reg <<< 1 :=
  if_congr bne_iff_ne rfl rfl

/-- The CRC takes its bytes bit by bit, most significant first. -/
theorem crcByte_eq (reg : Word16) (b : Byte) : crcByte reg b = ((List.range 8).map (fun i => b.getMsbD i)).foldl
    (fun (reg : Word16) bit => if reg.getMsbD 0 ≠ bit then (reg <<< 1) ^^^ 0x1021 else reg <<< 1) reg := by
  rw [List.foldl_map]
  simp only [← crcBit_eq]
  rfl

theorem crc_foldl_eq (l : List Byte) (reg : Word16) : l.foldl crcByte reg =
    (l.flatMap (fun x => (List.range 8).map (fun i => x.getMsbD i))).foldl
      (fun (reg : Word16) bit => if reg.getMsbD 0 ≠ bit then (reg <<< 1) ^^^ 0x1021 else reg <<< 1) reg := by
  induction l generalizing reg with
  | nil => rfl
  | cons b l ih => rw [List.foldl_cons, List.flatMap_cons, List.foldl_append, ih, crcByte_eq]

/-- Settles O35: the judgement by the checks ahead of the kind's, then by the kind and its length; the CRC bit by bit. -/
theorem runsAreJudgedByTheirFrame : Obligations.RunsAreJudgedByTheirFrame := by
  refine ⟨fun lacked sound chars n f hn hsound => ?_, fun l => crc_foldl_eq l 0xFFFF⟩
  have sound_iff : sound = true ↔ RunSound lacked chars := by
    rw [hsound, hn, Bool.and_eq_true, Bool.not_eq_true', decide_eq_true_iff]
    refine ⟨fun ⟨stops, length, most, sync, crc, low, high⟩ =>
      ⟨stops, length, most, sync, crc, by simp [stationOk, low, high]⟩, fun ⟨stops, length, most, sync, crc, sender⟩ =>
      ⟨stops, length, most, sync, crc, by simpa [stationOk] using sender⟩⟩
  rw [sound_iff, hn]
  by_cases h : RunSound lacked chars
  · cases hk : FrameKind.ofCode (byteAt chars 2) with
    | none =>
      have other := (FrameKind.ofCode_eq_none _).1 hk
      rw [judgeRun_of_unknown h hk]
      simp only [reduceCtorEq, false_iff, true_iff]
      exact ⟨fun ⟨_, _, _, known⟩ => by omega, h, other⟩
    | some k =>
      have known := (FrameKind.ofCode_eq_some _ _).1 hk
      have notUnknown : ¬(byteAt chars 2 = 0 ∨ 3 < byteAt chars 2) := by omega
      rw [judgeRun_of_known h hk]
      obtain ⟨sender, kind, body⟩ := f
      refine ⟨?_, ⟨fun unknown => ?_, fun ⟨_, other⟩ => absurd other notUnknown⟩⟩
      · by_cases fits : k.lengthOk (byteAt chars 3) = true
        · rw [if_pos fits]
          obtain ⟨code, rfl⟩ | ⟨code, rfl⟩ | ⟨code, rfl⟩ := known
          all_goals
            simp only [FrameKind.lengthOk, Bool.or_eq_true, Bool.and_eq_true, decide_eq_true_eq] at fits
            simp only [RunJudgement.valid.injEq, PeerFrame.mk.injEq, h, code, fits, eq_comm, true_and, and_true,
              Nat.reduceEqDiff, false_and, and_false, or_false, false_or]
            tauto
        · rw [if_neg fits]
          simp only [reduceCtorEq, false_iff]
          rintro ⟨-, -, -, ⟨code, rfl, length⟩ | ⟨code, rfl, length⟩ | ⟨code, rfl, length⟩⟩
          all_goals
            obtain ⟨code', rfl⟩ | ⟨code', rfl⟩ | ⟨code', rfl⟩ := known
            all_goals first
              | omega
              | exact fits (by simp [FrameKind.lengthOk, length])
      · split at unknown <;> cases unknown
  · rw [judgeRun_of_unsound h]
    simp [h]

/-! ### The frames this station sends (R204, R205) -/

theorem FrameKind.ofCode_code (k : FrameKind) : FrameKind.ofCode k.code = some k := by
  cases k <;> rfl

theorem FrameKind.length_le {k : FrameKind} {n : Nat} (h : k.lengthOk n = true) : n ≤ 23 := by
  cases k <;> simp [FrameKind.lengthOk] at h <;> omega

/-- The characters that the CRC covers (R134). -/
def frameCovered (n : Nat) (k : FrameKind) (body : List Byte) : List Byte :=
  BitVec.ofNat 8 n :: BitVec.ofNat 8 k.code :: BitVec.ofNat 8 body.length :: body

theorem frameChars_eq (n : Nat) (k : FrameKind) (body : List Byte) : frameChars n k body =
    syncByte :: (frameCovered n k body ++ byte2 (crc16 (frameCovered n k body)).toNat) := rfl

theorem frameCovered_length (n : Nat) (k : FrameKind) (body : List Byte) :
    (frameCovered n k body).length = 3 + body.length := by
  simp only [frameCovered, List.length_cons]
  omega

theorem byteAt_append (front l : List Byte) (i : Nat) : byteAt (front ++ l) (front.length + i) = byteAt l i := by
  rw [byteAt, byteAt, List.getD_append_right _ _ _ _ (Nat.le_add_right ..), Nat.add_sub_cancel_left]

/-- A word is the two bytes it is sent as. -/
theorem wordAt_byte2 (front back : List Byte) (w : Word16) :
    wordAt (front ++ (byte2 w.toNat ++ back)) front.length = w.toNat := by
  have bound := w.isLt
  have high := byteAt_append front (byte2 w.toNat ++ back) 0
  rw [wordAt, byteAt_append, show front.length = front.length + 0 from rfl, high]
  show w.toNat / 256 % 256 * 256 + w.toNat % 256 = w.toNat
  omega

/-- Settles O58: every check of the judgement reads what the frame was built with. -/
theorem framesReadBack : Obligations.FramesReadBack := by
  intro n k body hn hk
  have short := FrameKind.length_le hk
  have station : n ≤ 250 := by simp [stationOk] at hn; exact hn.2
  have sender : byteAt (frameChars n k body) 1 = n := by
    show n % 256 = n
    omega
  have code : byteAt (frameChars n k body) 2 = k.code := by
    show k.code % 256 = k.code
    cases k <;> rfl
  have length : byteAt (frameChars n k body) 3 = body.length := by
    show body.length % 256 = body.length
    omega
  have covered : ((frameChars n k body).drop 1).take (3 + body.length) = frameCovered n k body := by
    rw [frameChars_eq, List.drop_one, List.tail_cons, ← frameCovered_length n k body, List.take_left]
  have word : wordAt (frameChars n k body) (4 + body.length) = (crc16 (frameCovered n k body)).toNat := by
    have read := wordAt_byte2 (syncByte :: frameCovered n k body) [] (crc16 (frameCovered n k body))
    rw [List.length_cons, frameCovered_length] at read
    rw [frameChars_eq, show 4 + body.length = 3 + body.length + 1 by omega]
    exact read
  have sound : RunSound false (frameChars n k body) := by
    refine ⟨rfl, ?_, by omega, rfl, by rw [length, covered, word], by rw [sender, hn]⟩
    rw [length, frameChars_eq, List.length_cons, List.length_append, frameCovered_length]
    show 3 + body.length + 2 + 1 = 6 + body.length
    omega
  have payload : ((frameChars n k body).drop 4).take body.length = body := by
    show (body ++ byte2 _).take body.length = body
    rw [List.take_left]
  rw [judgeRun_of_known sound (by rw [code, FrameKind.ofCode_code]), length, if_pos hk, sender, payload]

end Sys2Proof.Machine

/-!
PROOFS. The bodies of a RECORD and of an ACKNOWLEDGE (chapter 10): what is sent is what is read.
-/
namespace Sys2Proof.Machine

/-! ### Codes (R213) -/

theorem Condition.ofCode_eq_some (n : Nat) (c : Condition) : Condition.ofCode n = some c ↔ c.code = n := by
  constructor
  · intro h
    unfold Condition.ofCode at h
    split at h <;> cases h <;> rfl
  · rintro rfl
    cases c <;> rfl

theorem Condition.code_range (c : Condition) : 1 ≤ c.code ∧ c.code ≤ 19 := by
  cases c <;> decide

/-- Every number of a condition code names a condition. -/
theorem Condition.exists_code {n : Nat} (low : 1 ≤ n) (high : n ≤ 19) : ∃ c : Condition, c.code = n := by
  have all : ∀ n ≤ 19, 1 ≤ n → (Condition.ofCode n).isSome = true := by decide
  obtain ⟨c, hc⟩ := Option.isSome_iff_exists.1 (all n high low)
  exact ⟨c, (Condition.ofCode_eq_some n c).1 hc⟩

theorem Kind.ofPointCode_eq_some (n : Nat) (k : Kind) :
    Kind.ofPointCode n = some k ↔ k ≠ .station ∧ k.code = n := by
  constructor
  · intro h
    unfold Kind.ofPointCode at h
    split at h <;> cases h <;> exact ⟨nofun, rfl⟩
  · rintro ⟨point, rfl⟩
    cases k with
    | station => exact absurd rfl point
    | _ => rfl

/-- The conditions of each kind, by their codes (R3, R213). -/
theorem Condition.kind_code (c : Condition) : c.kind.code = 1 ∧ 1 ≤ c.code ∧ c.code ≤ 3 ∨
    c.kind.code = 2 ∧ 4 ≤ c.code ∧ c.code ≤ 8 ∨ c.kind.code = 3 ∧ 9 ≤ c.code ∧ c.code ≤ 13 ∨
    c.kind.code = 4 ∧ c.code = 14 ∨ c.kind.code = 5 ∧ 15 ≤ c.code := by
  cases c <;> decide

theorem Kind.code_injective : Function.Injective Kind.code := by
  intro a b h
  cases a <;> cases b <;> first | rfl | cases h

/-! ### Flags (R203) -/

/-- The number of some flags holds them bit by bit, bit 0 first. -/
theorem testBit_flags (l : List Bool) (i : Nat) :
    (l.foldr (fun (b : Bool) n => b.toNat + 2 * n) 0).testBit i = l.getD i false := by
  induction l generalizing i with
  | nil => simp
  | cons b l ih =>
    rw [List.foldr_cons]
    cases i with
    | zero => cases b <;> simp [Nat.testBit_zero, Nat.add_mod]
    | succ i =>
      have half (n : Nat) : (b.toNat + 2 * n) / 2 = n := by
        have := b.toNat_le
        omega
      rw [Nat.testBit_succ, half, ih, List.getD_cons_succ]

theorem getLsbD_flagsByte (l : List Bool) {i : Nat} (hi : i < 8) : (flagsByte l).getLsbD i = l.getD i false := by
  rw [flagsByte, BitVec.getLsbD_ofNat, testBit_flags]
  simp [hi]

theorem bitAt_flagsByte {b : List Byte} {pos : Nat} {l : List Bool} (h : b.getD pos 0 = flagsByte l) {i : Nat}
    (hi : i < 8) : bitAt b pos i = l.getD i false := by
  rw [bitAt, h, getLsbD_flagsByte l hi]

theorem stateOfBit_eq_cleared (b : Bool) : stateOfBit b = .cleared ↔ b = true := by
  cases b <;> simp [stateOfBit]

theorem stateOfBit_of_state (st : OriginState) : stateOfBit (decide (st = .cleared)) = st := by
  cases st <;> rfl

theorem ackOf_eq (st : OriginState) (n : Nat) : ackOf st n = if n = 0 ∨ st = .cleared then none else some n := by
  simp only [ackOf, Bool.or_eq_true, decide_eq_true_eq]

/-- The mark of an OPEN record is written as its station, and its absence as 0 (R153, R208). -/
theorem ackOf_mark {st : OriginState} {mark : Option Nat}
    (h : ∀ n, mark = some n → st = .opened ∧ stationOk n = true) : ackOf st (mark.getD 0 % 256) = mark := by
  rw [ackOf_eq]
  cases mark with
  | none => rfl
  | some n =>
    obtain ⟨opened, station⟩ := h n rfl
    obtain ⟨low, high⟩ : 1 ≤ n ∧ n ≤ 250 := by simpa [stationOk] using station
    have small : n % 256 = n := by omega
    rw [Option.getD_some, small, if_neg]
    rintro (zero | cleared)
    · omega
    · rw [opened] at cleared
      cases cleared

/-! ### The body of a RECORD (R206) -/

/-- The fields of a RECORD body whose codes name a kind and a condition. -/
def recordBody (b : List Byte) (k : Kind) (c : Condition) : RecordBody :=
  { tag := BitVec.ofNat 16 (wordAt b 0)
    refresh := bitAt b 5 2
    ann :=
      { point := byteAt b 2, kind := k, conds := [c], state := stateOfBit (bitAt b 5 0), flapping := bitAt b 5 1
        group := wordAt b 7, parent := if wordAt b 9 = 0 then none else some (wordAt b 9)
        version := BitVec.ofNat 8 (byteAt b 6), age := ageOf (tripleAt b 11)
        occurrences := some (byteAt b 14), ack := ackOf (stateOfBit (bitAt b 5 0)) (byteAt b 15) } }

/-- The numbers of a RECORD body lie in their ranges, for its kind and condition (R116, R208). -/
structure RecordFits (b : List Byte) (k : Kind) (c : Condition) : Prop where
  point : 1 ≤ byteAt b 2 ∧ byteAt b 2 ≤ 64
  kind : c.kind = k
  group : wordAt b 7 ≤ 511
  supply : k = .supply → 1 ≤ wordAt b 7
  parent : wordAt b 9 ≠ 0 → k = .supply ∧ wordAt b 9 ≤ 511
  occurrences : 1 ≤ byteAt b 14
  ack : byteAt b 15 ≤ 250

theorem readRecord_eq {b : List Byte} {k : Kind} {c : Condition} (hk : Kind.ofPointCode (byteAt b 3) = some k)
    (hc : Condition.ofCode (byteAt b 4) = some c) [Decidable (RecordFits b k c)] :
    readRecord b = if RecordFits b k c then some (recordBody b k c) else none := by
  have tests : (pointOk (byteAt b 2) && c.kind = k && groupsOk k (wordAt b 7) (wordAt b 9) &&
      decide (1 ≤ byteAt b 14) && decide (byteAt b 15 ≤ 250)) = true ↔ RecordFits b k c := by
    simp only [pointOk, groupsOk, Bool.and_eq_true, Bool.or_eq_true, decide_eq_true_eq]
    constructor
    · rintro ⟨⟨⟨⟨⟨low, high⟩, kind⟩, ⟨group, supply⟩, parent⟩, occurrences⟩, ack⟩
      exact ⟨⟨low, high⟩, kind, group, fun h => supply.resolve_left (absurd h), parent.resolve_left, occurrences, ack⟩
    · rintro ⟨⟨low, high⟩, kind, group, supply, parent, occurrences, ack⟩
      exact ⟨⟨⟨⟨⟨low, high⟩, kind⟩, ⟨group, or_iff_not_imp_left.2 fun h => supply (not_not.1 h)⟩,
        or_iff_not_imp_left.2 parent⟩, occurrences⟩, ack⟩
  unfold readRecord
  rw [hk, hc]
  exact if_congr tests rfl rfl

/-- The words of a body are read as they were sent. -/
theorem ofNat_word (w : Word16) : BitVec.ofNat 16 (w.toNat / 256 % 256 * 256 + w.toNat % 256) = w := by
  have bound := w.isLt
  have whole : w.toNat / 256 % 256 * 256 + w.toNat % 256 = w.toNat := by omega
  rw [whole, BitVec.ofNat_toNat, BitVec.setWidth_eq]

theorem word_split {n : Nat} (h : n < 65536) : n / 256 % 256 * 256 + n % 256 = n := by omega

theorem tripleAt_eq (b : List Byte) (i : Nat) : tripleAt b i = byteAt b i * 65536 + wordAt b (i + 1) := by
  simp only [tripleAt, wordAt, Nat.add_assoc, Nat.reduceAdd]
  omega

theorem ageOf_eq (n : Nat) : ageOf n = min n 1048575 := rfl

theorem ofNat8_toNat (l : List Byte) (i : Nat) : (BitVec.ofNat 8 (byteAt l i)).toNat = byteAt l i := by
  have := byteAt_le l i
  rw [BitVec.toNat_ofNat]
  omega

theorem ofNat16_toNat (l : List Byte) (i : Nat) : (BitVec.ofNat 16 (wordAt l i)).toNat = wordAt l i := by
  have := byteAt_le l i
  have := byteAt_le l (i + 1)
  rw [BitVec.toNat_ofNat, wordAt]
  omega

/-- A sound point record's body reads back every field (R99, R206, R207). -/
theorem readRecord_writeRecord (tag : Word16) {r : Record} {c : Condition} (refresh : Bool) {age : Nat}
    (point : pointOk r.key.point = true) (kind : r.kind ≠ .station) (conds : r.conds = [c]) (hc : c.kind = r.kind)
    (group : r.group ≤ 511) (supply : r.kind = .supply → 1 ≤ r.group)
    (parent : ∀ g, r.parent = some g → r.kind = .supply ∧ 1 ≤ g ∧ g ≤ 511) (low : 1 ≤ r.occurrences)
    (high : r.occurrences ≤ 255) (mark : ∀ n, r.ackMark = some n → r.state = .opened ∧ stationOk n = true)
    (hage : age ≤ 1048575) : readRecord (writeRecord tag r refresh age) = some
      { tag := tag, refresh := refresh
        ann :=
          { point := r.key.point, kind := r.kind, conds := r.conds, state := r.state, flapping := r.flapping
            group := r.group, parent := r.parent, version := r.version, age := age
            occurrences := some r.occurrences, ack := r.ackMark } } := by
  obtain ⟨plow, phigh⟩ : 1 ≤ r.key.point ∧ r.key.point ≤ 64 := by simpa [pointOk] using point
  generalize hb : writeRecord tag r refresh age = b
  have tagIs : wordAt b 0 = tag.toNat / 256 % 256 * 256 + tag.toNat % 256 := by rw [← hb]; rfl
  have pointIs : byteAt b 2 = r.key.point := by
    rw [← hb]
    show r.key.point % 256 = r.key.point
    omega
  have kindIs : byteAt b 3 = r.kind.code := by
    rw [← hb]
    show r.kind.code % 256 = r.kind.code
    cases r.kind <;> rfl
  have condIs : byteAt b 4 = c.code := by
    rw [← hb]
    show (r.conds.headD .lampOut).code % 256 = c.code
    have := c.code_range
    rw [conds, List.headD_cons]
    omega
  have flags : b.getD 5 0 = flagsByte [r.state = .cleared, r.flapping, refresh] := by rw [← hb]; rfl
  have versionIs : byteAt b 6 = r.version.toNat := by rw [← hb]; rfl
  have groupIs : wordAt b 7 = r.group := by
    rw [← hb]
    exact word_split (by omega)
  have parentSmall : r.parent.getD 0 ≤ 511 := by
    cases hp : r.parent with
    | none => exact Nat.zero_le 511
    | some g => exact (parent g hp).2.2
  have parentIs : wordAt b 9 = r.parent.getD 0 := by
    rw [← hb]
    exact word_split (by omega)
  have ageIs : tripleAt b 11 = age := by
    rw [← hb]
    show (age / 65536 % 256 * 256 + age / 256 % 256) * 256 + age % 256 = age
    omega
  have occurrencesIs : byteAt b 14 = r.occurrences := by
    rw [← hb]
    show r.occurrences % 256 = r.occurrences
    omega
  have ackIs : byteAt b 15 = r.ackMark.getD 0 % 256 := by rw [← hb]; rfl
  have ackSmall : r.ackMark.getD 0 % 256 ≤ 250 := by
    cases hm : r.ackMark with
    | none => exact Nat.zero_le 250
    | some n =>
      have station := (mark n hm).2
      simp [stationOk] at station
      rw [Option.getD_some]
      omega
  have fits : RecordFits b r.kind c := by
    refine ⟨by omega, hc, by omega, fun h => groupIs ▸ supply h, fun h => ?_, by omega, by omega⟩
    rw [parentIs] at h ⊢
    cases hp : r.parent with
    | none => rw [hp] at h; exact absurd rfl h
    | some g =>
      obtain ⟨isSupply, -, small⟩ := parent g hp
      exact ⟨isSupply, small⟩
  have parentBack : (if r.parent.getD 0 = 0 then none else some (r.parent.getD 0)) = r.parent := by
    cases hp : r.parent with
    | none => rfl
    | some g =>
      obtain ⟨-, positive, -⟩ := parent g hp
      exact if_neg (Nat.ne_of_gt positive)
  classical
  rw [readRecord_eq (k := r.kind) (c := c) ((Kind.ofPointCode_eq_some _ _).2 ⟨kind, kindIs.symm⟩)
    ((Condition.ofCode_eq_some _ _).2 condIs.symm), if_pos fits, recordBody, tagIs, ofNat_word, pointIs, groupIs,
    parentIs, parentBack, versionIs, ageIs, ageOf_eq, Nat.min_eq_left hage, occurrencesIs, ackIs,
    bitAt_flagsByte flags (show 0 < 8 by decide), bitAt_flagsByte flags (show 1 < 8 by decide),
    bitAt_flagsByte flags (show 2 < 8 by decide), BitVec.ofNat_toNat, BitVec.setWidth_eq, conds]
  show some _ = some _
  simp only [List.getD_cons_zero, List.getD_cons_succ, stateOfBit_of_state, ackOf_mark mark]

/-! ### Every body (R116, R203) -/

theorem Kind.code_eq_four (k : Kind) : k.code = 4 ↔ k = .supply :=
  ⟨fun h => Kind.code_injective h, fun h => h ▸ rfl⟩

/-- A RECORD body passes where its bytes and words lie in their ranges (R116, R208). -/
theorem exists_recordFits_iff (b : List Byte) :
    (∃ k c, Kind.ofPointCode (byteAt b 3) = some k ∧ Condition.ofCode (byteAt b 4) = some c ∧ RecordFits b k c) ↔
      (1 ≤ byteAt b 2 ∧ byteAt b 2 ≤ 64) ∧
      (byteAt b 3 = 1 ∧ 1 ≤ byteAt b 4 ∧ byteAt b 4 ≤ 3 ∨ byteAt b 3 = 2 ∧ 4 ≤ byteAt b 4 ∧ byteAt b 4 ≤ 8 ∨
        byteAt b 3 = 3 ∧ 9 ≤ byteAt b 4 ∧ byteAt b 4 ≤ 13 ∨ byteAt b 3 = 4 ∧ byteAt b 4 = 14) ∧
      wordAt b 7 ≤ 511 ∧ (byteAt b 3 = 4 → 1 ≤ wordAt b 7) ∧ (wordAt b 9 ≠ 0 → byteAt b 3 = 4 ∧ wordAt b 9 ≤ 511) ∧
      1 ≤ byteAt b 14 ∧ byteAt b 15 ≤ 250 := by
  constructor
  · rintro ⟨k, c, hk, hc, point, kind, group, supply, parent, occurrences, ack⟩
    obtain ⟨notStation, code⟩ := (Kind.ofPointCode_eq_some _ _).1 hk
    have condition := (Condition.ofCode_eq_some _ _).1 hc
    have isSupply := k.code_eq_four
    have codes := c.kind_code
    have five : k.code ≠ 5 := fun h => notStation (Kind.code_injective h)
    rw [kind, code, condition] at codes
    rw [code] at isSupply five
    exact ⟨point, by omega, group, fun h => supply (isSupply.1 h), fun h => ⟨isSupply.2 (parent h).1, (parent h).2⟩,
      occurrences, ack⟩
  · rintro ⟨point, codes, group, supply, parent, occurrences, ack⟩
    obtain ⟨c, hc⟩ := Condition.exists_code (n := byteAt b 4) (by omega) (by omega)
    have kinds := c.kind_code
    have high := c.code_range
    rw [hc] at kinds high
    have code : c.kind.code = byteAt b 3 := by omega
    have isSupply := c.kind.code_eq_four
    rw [code] at isSupply
    have notStation : c.kind ≠ .station := fun h => by
      rw [h] at code
      have five : byteAt b 3 = 5 := code.symm
      omega
    exact ⟨c.kind, c, (Kind.ofPointCode_eq_some _ _).2 ⟨notStation, code⟩, (Condition.ofCode_eq_some _ _).2 hc, point, rfl,
      group, fun h => supply (isSupply.2 h), fun h => ⟨isSupply.1 (parent h).1, (parent h).2⟩, occurrences, ack⟩

theorem readRecord_eq_none {b : List Byte} (h : ¬∃ k c, Kind.ofPointCode (byteAt b 3) = some k ∧
    Condition.ofCode (byteAt b 4) = some c ∧ RecordFits b k c) : readRecord b = none := by
  classical
  cases hk : Kind.ofPointCode (byteAt b 3) with
  | none => rw [readRecord, hk]
  | some k =>
    cases hc : Condition.ofCode (byteAt b 4) with
    | none => rw [readRecord, hk, hc]
    | some c => exact (readRecord_eq hk hc).trans (if_neg fun fits => h ⟨k, c, hk, hc, fits⟩)

theorem readAcknowledge_of_passes {b : List Byte} (h : (1 ≤ byteAt b 2 ∧ byteAt b 2 ≤ 250) ∧ byteAt b 3 ≤ 64) :
    readAcknowledge b = some { tag := BitVec.ofNat 16 (wordAt b 0), origin := byteAt b 2, point := byteAt b 3
                               seen := BitVec.ofNat 8 (byteAt b 4) } :=
  if_pos (by simp [stationOk, slotOk, h])

theorem readAcknowledge_eq_none {b : List Byte} (h : ¬((1 ≤ byteAt b 2 ∧ byteAt b 2 ≤ 250) ∧ byteAt b 3 ≤ 64)) :
    readAcknowledge b = none :=
  if_neg fun tests => h (by simpa [stationOk, slotOk] using tests)

/-- Settles O59: the built bodies field by field, every body by the ranges of its fields. -/
theorem recordAndAcknowledgeBodiesReadBack : Obligations.RecordAndAcknowledgeBodiesReadBack := by
  refine ⟨fun tag r c refresh age point kind conds hc group supply parent low high mark hage =>
    readRecord_writeRecord tag refresh point kind conds hc group supply parent low high mark hage,
    fun a origin point => ?ack, fun b word passes hword hpasses => ?record, fun b => ⟨readAcknowledge_eq_none, fun h =>
      ⟨_, readAcknowledge_of_passes h, ofNat16_toNat b 0, rfl, rfl, ofNat8_toNat b 4⟩⟩,
    fun tag r refresh age a => ⟨rfl, ?flags, rfl⟩⟩
  case ack =>
    obtain ⟨low, high⟩ : 1 ≤ a.origin ∧ a.origin ≤ 250 := by simpa [stationOk] using origin
    have slot : a.point ≤ 64 := by simpa [slotOk] using point
    have originIs : byteAt (writeAcknowledge a) 2 = a.origin := by
      show a.origin % 256 = a.origin
      omega
    have pointIs : byteAt (writeAcknowledge a) 3 = a.point := by
      show a.point % 256 = a.point
      omega
    have tagIs : wordAt (writeAcknowledge a) 0 = a.tag.toNat / 256 % 256 * 256 + a.tag.toNat % 256 := rfl
    have seenIs : byteAt (writeAcknowledge a) 4 = a.seen.toNat := rfl
    rw [readAcknowledge_of_passes (by omega), originIs, pointIs, tagIs, ofNat_word, seenIs, BitVec.ofNat_toNat,
      BitVec.setWidth_eq]
  case flags =>
    show (flagsByte [r.state = .cleared, r.flapping, refresh]).toNat < 8
    generalize decide (r.state = .cleared) = cleared
    revert cleared refresh
    cases r.flapping <;> decide
  case record =>
    obtain rfl : word = wordAt b := hword
    have iff := exists_recordFits_iff b
    rw [← hpasses] at iff
    refine ⟨fun fails => readRecord_eq_none fun fits => fails (iff.1 fits), fun h => ?_⟩
    obtain ⟨k, c, hk, hc, fits⟩ := iff.2 h
    classical
    refine ⟨recordBody b k c, c, (readRecord_eq hk hc).trans (if_pos fits), ofNat16_toNat b 0, Iff.rfl, rfl,
      ((Kind.ofPointCode_eq_some _ _).1 hk).2, rfl, (Condition.ofCode_eq_some _ _).1 hc, stateOfBit_eq_cleared _,
      Iff.rfl, ofNat8_toNat b 6, rfl, rfl, ?_, rfl, ackOf_eq _ _⟩
    rw [← tripleAt_eq]
    rfl

end Sys2Proof.Machine

/-!
PROOFS. The body of a ROLL (chapter 10): what is sent is what is read.
-/
namespace Sys2Proof.Machine

/-! ### The open set (R206) -/

theorem writeRoll_eq (tag : Word16) (window : Nat) (set : List Nat) (part : Option (Record × Nat)) :
    ∃ back, writeRoll tag window set part = byte2 tag.toNat ++ byte2 window ++ (writeOpenSet set ++ back) :=
  ⟨_, List.append_assoc ..⟩

/-- The byte of eight points. -/
theorem getD_writeOpenSet (set : List Nat) (back : List Byte) {q : Nat} (hq : q < 8) :
    (writeOpenSet set ++ back).getD q 0 =
      flagsByte ((List.range 8).map (fun b => set.contains (8 * q + b + 1))) := by
  have inside : q < (writeOpenSet set).length := by simpa [writeOpenSet] using hq
  rw [List.getD_eq_getElem?_getD, List.getElem?_append_left inside, writeOpenSet, List.getElem?_map,
    List.getElem?_range hq, Option.map_some, Option.getD_some]

theorem bitAt_writeRoll (tag : Word16) (window : Nat) (set : List Nat) (part : Option (Record × Nat)) {p : Nat}
    (hp : pointOk p = true) :
    bitAt (writeRoll tag window set part) (4 + (p - 1) / 8) ((p - 1) % 8) = decide (p ∈ set) := by
  obtain ⟨low, high⟩ : 1 ≤ p ∧ p ≤ 64 := by simpa [pointOk] using hp
  have q : (p - 1) / 8 < 8 := by omega
  have i : (p - 1) % 8 < 8 := by omega
  have whole : 8 * ((p - 1) / 8) + (p - 1) % 8 + 1 = p := by omega
  obtain ⟨back, eq⟩ := writeRoll_eq tag window set part
  have byte : (writeRoll tag window set part).getD (4 + (p - 1) / 8) 0 =
      flagsByte ((List.range 8).map (fun b => set.contains (8 * ((p - 1) / 8) + b + 1))) := by
    rw [eq, ← getD_writeOpenSet set back q, List.getD_append_right _ _ _ _ (Nat.le_add_right 4 _)]
    exact congrArg (fun j => (writeOpenSet set ++ back).getD j 0) (Nat.add_sub_cancel_left ..)
  rw [bitAt_flagsByte byte i, List.getD_eq_getElem _ _ (by simpa using i), List.getElem_map, List.getElem_range, whole,
    List.contains_eq_mem]

theorem readOpenSet_writeRoll (tag : Word16) (window : Nat) (set : List Nat) (part : Option (Record × Nat)) :
    readOpenSet (writeRoll tag window set part) =
      ((List.range 64).map (· + 1)).filter (fun p => decide (p ∈ set)) := by
  refine List.filter_congr fun p hp => bitAt_writeRoll tag window set part ?_
  exact (mem_allPoints p).1 hp

/-! ### The condition list of a station part (R208) -/

/-- The codes of a list are those of station conditions, none twice. -/
def stationCodes (l : List Byte) : Prop :=
  (l.map BitVec.toNat).Nodup ∧ ∀ x ∈ l.map BitVec.toNat, 15 ≤ x ∧ x ≤ 19

theorem Condition.station_iff (c : Condition) : c.kind = .station ↔ 15 ≤ c.code := by
  cases c <;> decide

theorem condJoin_length {c : Condition} {l : List Condition} (h : c ∉ l) : (condJoin c l).length = l.length + 1 := by
  induction l with
  | nil => rfl
  | cons d l ih =>
    obtain ⟨ne, rest⟩ : c ≠ d ∧ c ∉ l := by simpa using h
    unfold condJoin
    split
    next => rfl
    next => rw [List.length_cons, ih rest, List.length_cons]

/-- What a condition list is read as: its conditions in ascending code order. -/
structure ReadsAs (l : List Byte) (cs : List Condition) : Prop where
  ascending : Ascending cs
  length : cs.length = l.length
  codes : ∀ x, x ∈ cs.map Condition.code ↔ x ∈ l.map BitVec.toNat

theorem readStationList_some {l : List Byte} {cs : List Condition} (h : readStationList l = some cs) :
    stationCodes l ∧ ReadsAs l cs := by
  induction l generalizing cs with
  | nil =>
    cases h
    exact ⟨⟨.nil, nofun⟩, .nil, rfl, fun _ => Iff.rfl⟩
  | cons x l ih =>
    unfold readStationList at h
    split at h
    next c cs' hc hl =>
      split at h
      next tests =>
        obtain rfl := Option.some.inj h
        obtain ⟨⟨nodup, range⟩, ascending, length, codes⟩ := ih hl
        obtain ⟨kind, new⟩ : c.kind = .station ∧ c ∉ cs' := by simpa using tests
        have code : c.code = x.toNat := (Condition.ofCode_eq_some _ _).1 hc
        have fresh : x.toNat ∉ l.map BitVec.toNat := fun mem => by
          obtain ⟨d, hd, same⟩ := List.mem_map.1 ((codes _).2 mem)
          rw [← code] at same
          exact new (Condition.code_injective same ▸ hd)
        refine ⟨⟨List.nodup_cons.2 ⟨fresh, nodup⟩, fun y hy => ?_⟩, Ascending.condJoin ascending c, ?_, fun y => ?_⟩
        · obtain rfl | hy := List.mem_cons.1 hy
          · rw [← code]
            exact ⟨c.station_iff.1 kind, c.code_range.2⟩
          · exact range y hy
        · rw [condJoin_length new, length, List.length_cons]
        · simp only [List.mem_map, mem_condJoin, List.mem_cons, or_and_right, exists_or, exists_eq_left,
            List.map_cons, code] at codes ⊢
          rw [codes, eq_comm]
      next => cases h
    next => cases h

theorem readStationList_of_codes {l : List Byte} (h : stationCodes l) : ∃ cs, readStationList l = some cs := by
  induction l with
  | nil => exact ⟨[], rfl⟩
  | cons x l ih =>
    obtain ⟨nodup, range⟩ := h
    obtain ⟨new, rest⟩ := List.nodup_cons.1 nodup
    obtain ⟨low, high⟩ := range x.toNat List.mem_cons_self
    obtain ⟨cs, hcs⟩ := ih ⟨rest, fun y hy => range y (List.mem_cons_of_mem _ hy)⟩
    obtain ⟨c, hc⟩ := Condition.exists_code (n := x.toNat) (by omega) high
    obtain ⟨-, reads⟩ := readStationList_some hcs
    have kind : c.kind = .station := c.station_iff.2 (by omega)
    have fresh : c ∉ cs := fun mem => by
      have code := (reads.codes _).1 (List.mem_map_of_mem mem)
      rw [hc] at code
      exact new code
    refine ⟨condJoin c cs, ?_⟩
    rw [readStationList, (Condition.ofCode_eq_some _ _).2 hc, hcs]
    exact if_pos (by simp [kind, fresh])

/-- Two ascending lists of the same codes are one. -/
theorem Ascending.eq_of_codes {l m : List Condition} (hl : Ascending l) (hm : Ascending m)
    (h : ∀ x, x ∈ l.map Condition.code ↔ x ∈ m.map Condition.code) : l = m := by
  refine List.map_injective_iff.2 Condition.code_injective ?_
  have sorted {l : List Condition} (hl : Ascending l) : (l.map Condition.code).Pairwise (· < ·) := List.pairwise_map.2 hl
  refine List.Perm.eq_of_pairwise (fun a b _ _ lt gt => absurd lt (Nat.lt_asymm gt)) (sorted hl) (sorted hm) ?_
  exact (List.perm_ext_iff_of_nodup ((sorted hl).imp Nat.ne_of_lt) ((sorted hm).imp Nat.ne_of_lt)).2 h

/-! ### The station part (R206, R208) -/

/-- The station part of a body, with its condition list as read. -/
def rollPart (b : List Byte) (cs : List Condition) : Announcement :=
  { point := 0, kind := .station, conds := cs, state := stateOfBit (bitAt b 13 0), flapping := false, group := 0
    parent := none, version := BitVec.ofNat 8 (byteAt b 12), age := ageOf (tripleAt b 14), occurrences := none
    ack := ackOf (stateOfBit (bitAt b 13 0)) (byteAt b 17) }

theorem readStationPart_of_short {b : List Byte} (h : b.length ≤ 12) : readStationPart b = some none := if_pos h

section LongBody

variable {b : List Byte} (h : 12 < b.length)
include h

theorem readStationPart_of_list {cs : List Condition} (hl : readStationList (b.drop 18) = some cs) (ne : cs ≠ [])
    (len : cs.length ≤ 5) (ack : byteAt b 17 ≤ 250) : readStationPart b = some (some (rollPart b cs)) := by
  obtain ⟨c, cs, rfl⟩ := List.exists_cons_of_ne_nil ne
  have tests : (decide (cs.length ≤ 4) && decide (byteAt b 17 ≤ 250)) = true := by
    have four : cs.length ≤ 4 := Nat.le_of_succ_le_succ len
    simp [ack, four]
  simp only [readStationPart, if_neg (Nat.not_le.2 h), hl, if_pos tests]
  rfl

theorem readStationPart_eq_none (bad : ¬(stationCodes (b.drop 18) ∧ byteAt b 17 ≤ 250)) : readStationPart b = none := by
  simp only [readStationPart, if_neg (Nat.not_le.2 h)]
  split
  next c cs hl =>
    refine if_neg fun tests => bad ⟨(readStationList_some hl).1, ?_⟩
    simp only [Bool.and_eq_true, decide_eq_true_eq] at tests
    exact tests.2
  next => rfl

end LongBody

theorem readRoll_of_window {b : List Byte} (low : 60 ≤ wordAt b 2) (high : wordAt b 2 ≤ 600)
    {part : Option Announcement} (hp : readStationPart b = some part) : readRoll b = some
      { tag := BitVec.ofNat 16 (wordAt b 0), window := wordAt b 2, openSet := readOpenSet b, part := part } := by
  simp [readRoll, low, high, hp]

theorem readRoll_eq_none {b : List Byte} (h : ¬(60 ≤ wordAt b 2 ∧ wordAt b 2 ≤ 600) ∨ readStationPart b = none) :
    readRoll b = none := by
  obtain window | part := h
  · exact if_neg (by simpa using window)
  · simp [readRoll, part]

/-! ### A ROLL built and read (R100) -/

section WriteRoll

variable (tag : Word16) (window : Nat) (set : List Nat)

theorem wordAt_writeRoll_window (high : window ≤ 600) (part : Option (Record × Nat)) :
    wordAt (writeRoll tag window set part) 2 = window := word_split (by omega)

theorem wordAt_writeRoll_tag (part : Option (Record × Nat)) :
    BitVec.ofNat 16 (wordAt (writeRoll tag window set part) 0) = tag := ofNat_word tag

theorem writeRoll_length_none : (writeRoll tag window set none).length = 12 := rfl

/-- The bytes of a station part, behind the open set. -/
theorem writeRoll_some (r : Record) (age : Nat) : ∃ front : List Byte, front.length = 12 ∧
    writeRoll tag window set (some (r, age)) = front ++ (r.version :: flagsByte [r.state = .cleared] ::
      (byte3 age ++ (BitVec.ofNat 8 (r.ackMark.getD 0) :: r.conds.map (fun c => BitVec.ofNat 8 c.code)))) :=
  ⟨byte2 tag.toNat ++ byte2 window ++ writeOpenSet set, rfl, rfl⟩

theorem writeRoll_length_some (r : Record) (age : Nat) :
    (writeRoll tag window set (some (r, age))).length = 18 + r.conds.length := by
  obtain ⟨front, len, eq⟩ := writeRoll_some tag window set r age
  rw [eq, List.length_append, len]
  simp only [List.length_cons, List.length_append, List.length_map, byte3, List.length_nil]
  omega

/-- The station part's list is read back. -/
theorem readStationList_conds {l : List Condition} (kinds : ∀ c ∈ l, c.kind = .station) (asc : Ascending l) :
    readStationList (l.map (fun c => BitVec.ofNat 8 c.code)) = some l := by
  have codes : (l.map (fun c => (BitVec.ofNat 8 c.code : Byte))).map BitVec.toNat = l.map Condition.code := by
    rw [List.map_map]
    refine List.map_congr_left fun c _ => ?_
    have := c.code_range
    rw [Function.comp_apply, BitVec.toNat_ofNat]
    omega
  have ok : stationCodes (l.map (fun c => BitVec.ofNat 8 c.code)) := by
    rw [stationCodes, codes]
    refine ⟨(List.pairwise_map.2 asc).imp Nat.ne_of_lt, fun x hx => ?_⟩
    obtain ⟨c, hc, rfl⟩ := List.mem_map.1 hx
    exact ⟨c.station_iff.1 (kinds c hc), c.code_range.2⟩
  obtain ⟨cs, hcs⟩ := readStationList_of_codes ok
  obtain ⟨-, reads⟩ := readStationList_some hcs
  rw [hcs, Ascending.eq_of_codes reads.ascending asc fun x => by rw [reads.codes, codes]]

/-- A list of station conditions in ascending order holds five at most. -/
theorem station_length_le {l : List Condition} (kinds : ∀ c ∈ l, c.kind = .station) (asc : Ascending l) :
    l.length ≤ 5 := by
  have nodup : (l.map Condition.code).Nodup := (List.pairwise_map.2 asc).imp Nat.ne_of_lt
  have inside : l.map Condition.code ⊆ [15, 16, 17, 18, 19] := fun x hx => by
    obtain ⟨c, hc, rfl⟩ := List.mem_map.1 hx
    have low := c.station_iff.1 (kinds c hc)
    have high := c.code_range.2
    simp only [List.mem_cons, List.not_mem_nil, or_false]
    omega
  simpa using (List.subperm_of_subset nodup inside).length_le

theorem readRoll_writeRoll_some {r : Record} {age : Nat} (low : 60 ≤ window) (high : window ≤ 600) (ne : r.conds ≠ [])
    (kinds : ∀ c ∈ r.conds, c.kind = .station) (asc : Ascending r.conds)
    (mark : ∀ n, r.ackMark = some n → r.state = .opened ∧ stationOk n = true) (hage : age ≤ 1048575) :
    readRoll (writeRoll tag window set (some (r, age))) = some
      { tag := tag, window := window
        openSet := ((List.range 64).map (· + 1)).filter (fun p => decide (p ∈ set))
        part := some
          { point := 0, kind := .station, conds := r.conds, state := r.state, flapping := false, group := 0
            parent := none, version := r.version, age := age, occurrences := none, ack := r.ackMark } } := by
  have windowIs := wordAt_writeRoll_window tag window set high (some (r, age))
  have tagIs := wordAt_writeRoll_tag tag window set (some (r, age))
  have openIs := readOpenSet_writeRoll tag window set (some (r, age))
  have length := writeRoll_length_some tag window set r age
  obtain ⟨front, len, eq⟩ := writeRoll_some tag window set r age
  generalize writeRoll tag window set (some (r, age)) = b at *
  have at' (i : Nat) : byteAt b (12 + i) = byteAt (r.version :: flagsByte [r.state = .cleared] ::
      (byte3 age ++ (BitVec.ofNat 8 (r.ackMark.getD 0) :: r.conds.map (fun c => BitVec.ofNat 8 c.code)))) i := by
    rw [eq, ← len, byteAt_append]
  have versionIs : byteAt b 12 = r.version.toNat := at' 0
  have flags : b.getD 13 0 = flagsByte [r.state = .cleared] := BitVec.eq_of_toNat_eq (at' 1)
  have ageIs : tripleAt b 14 = age := by
    rw [tripleAt, wordAt, show byteAt b 14 = _ from at' 2, show byteAt b 15 = _ from at' 3,
      show byteAt b 16 = _ from at' 4]
    show (age / 65536 % 256 * 256 + age / 256 % 256) * 256 + age % 256 = age
    omega
  have ackIs : byteAt b 17 = r.ackMark.getD 0 % 256 := (at' 5).trans (BitVec.toNat_ofNat ..)
  have listIs : b.drop 18 = r.conds.map (fun c => BitVec.ofNat 8 c.code) := by
    rw [eq, show 18 = front.length + 6 by rw [len], List.drop_length_add_append]
    rfl
  have ackSmall : r.ackMark.getD 0 % 256 ≤ 250 := by
    cases hm : r.ackMark with
    | none => exact Nat.zero_le 250
    | some n =>
      have station := (mark n hm).2
      simp [stationOk] at station
      rw [Option.getD_some]
      omega
  have part : readStationPart b = some (some (rollPart b r.conds)) := by
    refine readStationPart_of_list (by omega) ?_ ne (station_length_le kinds asc) (by omega)
    rw [listIs, readStationList_conds kinds asc]
  rw [readRoll_of_window (by omega) (by omega) part, tagIs, windowIs, openIs, rollPart, versionIs, ageIs, ageOf_eq,
    Nat.min_eq_left hage, ackIs, bitAt_flagsByte flags (by decide), BitVec.ofNat_toNat, BitVec.setWidth_eq]
  simp only [List.getD_cons_zero, stateOfBit_of_state, ackOf_mark mark]

end WriteRoll

/-- Settles O60: the built body field by field, every body by its window and its list. -/
theorem rollBodiesReadBack : Obligations.RollBodiesReadBack := by
  refine ⟨fun tag window set low high => ⟨?plain, fun r age ne kinds asc mark hage =>
    readRoll_writeRoll_some tag window set low high ne kinds asc mark hage⟩,
    fun b word list windowOk partOk len hword hlist hwindow hpart => ?read, fun tag window set r age =>
    ⟨rfl, writeRoll_length_some tag window set r age, ?flags⟩⟩
  case plain =>
    have windowIs := wordAt_writeRoll_window tag window set high none
    rw [readRoll_of_window (by omega) (by omega) (readStationPart_of_short (by rw [writeRoll_length_none])),
      wordAt_writeRoll_tag, windowIs, readOpenSet_writeRoll]
  case flags =>
    show (flagsByte [r.state = .cleared]).toNat < 2
    cases decide (r.state = .cleared) <;> decide
  case read =>
    obtain rfl : word = wordAt b := hword
    have part_iff : partOk ↔ stationCodes (b.drop 18) ∧ byteAt b 17 ≤ 250 := by
      rw [hpart, hlist, stationCodes, and_assoc]
    have window_iff : windowOk ↔ 60 ≤ wordAt b 2 ∧ wordAt b 2 ≤ 600 := by rw [hwindow]
    refine ⟨fun bad => readRoll_eq_none ?_, fun good part => ?_⟩
    · obtain window | ⟨long, bad⟩ := bad
      · exact .inl fun ok => window (window_iff.2 ok)
      · exact .inr (readStationPart_eq_none long fun ok => bad (part_iff.2 ok))
    · obtain ⟨low, high⟩ := window_iff.1 good
      by_cases short : b.length = 12
      · refine ⟨_, readRoll_of_window low high (readStationPart_of_short short.le), ofNat16_toNat b 0, rfl, rfl,
          fun _ => rfl, fun long => ?_⟩
        omega
      · obtain ⟨codes, ack⟩ := part_iff.1 (part.resolve_left short)
        obtain ⟨cs, hcs⟩ := readStationList_of_codes codes
        obtain ⟨-, reads⟩ := readStationList_some hcs
        have length : cs.length = b.length - 18 := reads.length.trans List.length_drop
        have ne : cs ≠ [] := fun nil => by rw [nil, List.length_nil] at length; omega
        have read := readStationPart_of_list (by omega) hcs ne (by omega) ack
        refine ⟨_, readRoll_of_window low high read, ofNat16_toNat b 0, rfl, rfl, fun same => absurd same short,
          fun _ => ⟨_, rfl, rfl, rfl, rfl, rfl, rfl, rfl, ofNat8_toNat b 12, stateOfBit_eq_cleared _, ?_, ackOf_eq _ _,
            reads.ascending, fun x => ?_⟩⟩
        · rw [← tripleAt_eq]
          rfl
        · rw [hlist]
          exact reads.codes x

end Sys2Proof.Machine

/-!
PROOFS. The dispatcher port's gate (R171 to R174), and the course of a REJOIN up to the entry to IN-STEP.
-/
namespace Sys2Proof.Machine

/-! ### The gate -/

theorem ViewFilter.passes_iff (f : ViewFilter) (kind : Kind) (severity : Nat) (v : ViewState) (fr : Freshness) :
    f.passes kind severity v fr = true ↔ f.minSeverity ≤ severity ∧ kind ∈ f.kinds ∧
      (v = .held → f.includeHeld = true) ∧ (v = .cleared → f.includeCleared = true) ∧
      (fr = .stale → f.includeStale = true) := by
  simp only [ViewFilter.passes, Bool.and_eq_true, Bool.or_eq_true, decide_eq_true_eq, List.contains_iff_mem,
    ne_eq, ← imp_iff_not_or, and_assoc]

theorem ViewFilter.wants_changed (f : ViewFilter) (i : RecordItem) (before : Option Seen) :
    f.wants ⟨.recordChanged i, before⟩ = true ↔ f.passesItem i = true ∨
      ∃ b, before = some b ∧ f.passes i.record.kind b.severity b.view b.freshness = true := by
  cases before <;> simp [ViewFilter.wants]

theorem DispatcherPort.gate_of_unwanted {p : DispatcherPort} {n : Notice} (h : p.watch = false ∨ p.filter.wants n = false) :
    p.gate n = p := by
  have unwanted : ¬(p.watch && p.filter.wants n) = true := by simpa [or_iff_not_imp_left] using h
  exact if_neg unwanted

theorem DispatcherPort.gate_of_wanted {p : DispatcherPort} {n : Notice} (watch : p.watch = true)
    (wanted : p.filter.wants n = true) : p.gate n = if p.reports.length < p.limit then p.post n.report
      else { p with dropped := p.dropped + 1, resync := true } :=
  if_pos (by rw [watch, wanted]; rfl)

/-- Settles O50: the filter's checks one by one, and the three cases of the gate. -/
theorem noticesPassTheGate : Obligations.NoticesPassTheGate := by
  intro p n i f
  refine ⟨f.passes_iff .., fun before => ?_, fun cause before => rfl, fun before g st sup held => rfl,
    fun before m heard records => rfl, fun before m records => rfl, fun before o pt seen => rfl,
    DispatcherPort.gate_of_unwanted, fun watch wanted => ?_⟩
  · simp only [f.wants_changed, f.passes_iff]
  · rw [DispatcherPort.gate_of_wanted watch wanted]
    exact ⟨fun room => if_pos room, fun past => if_neg (Nat.not_lt.2 past)⟩

/-! ### The entry to IN-STEP -/

theorem OriginUnit.slotDeferred_iff (o : OriginUnit) (k : Nat) : o.slotDeferred k = true ↔
    ∃ r ∈ (o.slot k).record, (r.kind = .lamp ∨ r.kind = .loop ∨ r.kind = .sign) ∧ r.group ≠ 0 ∧ r.group ∈ o.held := by
  unfold OriginUnit.slotDeferred
  cases hr : (o.slot k).record with
  | none => simp
  | some r => simp [OriginUnit.deferred_iff]

theorem listeningTimerEnd_of_past {s : State} {e : Nat} (listening : s.loader.state = .listening)
    (timer : s.loader.listenEnd = some e) (past : e ≤ s.now) : listeningTimerEnd s =
      State.wake { s with loader := { s.loader with state := .inStep, listenEnd := none }, origin := s.enteredOrigin } :=
  if_pos ⟨listening, (due_iff ..).2 ⟨e, timer, past⟩⟩

theorem listeningTimerEnd_of_before {s : State}
    (h : s.loader.state ≠ .listening ∨ ∀ e, s.loader.listenEnd = some e → s.now < e) : listeningTimerEnd s = s := by
  refine if_neg fun ⟨listening, ended⟩ => ?_
  obtain ⟨e, timer, past⟩ := (due_iff ..).1 ended
  exact h.elim (absurd listening) fun running => Nat.not_lt.2 past (running e timer)

/-- The change queue at the entry, with the slots that hold a record written out (R102). -/
theorem State.entryQueue_eq (s : State) {slots : List Nat} {deferred : Nat → Bool}
    (hdeferred : ∀ k, s.origin.slotDeferred k = deferred k)
    (hslots : slots = allPoints.filter (fun k => decide ((s.origin.slot k).record ≠ none))) :
    s.entryQueue = 0 :: (slots.filter (fun k => decide ((s.pointConfig k).kind = some .supply)) ++
      slots.filter (fun k => decide ((s.pointConfig k).kind ≠ some .supply) && !deferred k)) := by
  have held : s.origin.heldSlots = slots := by
    rw [hslots]
    refine List.filter_congr fun k _ => ?_
    cases (s.origin.slot k).record <;> rfl
  have urgent {k : Nat} (hk : k ∈ slots) : s.urgent k = decide ((s.pointConfig k).kind = some .supply) := by
    rw [hslots] at hk
    have other : k ≠ 0 := by
      have point := (mem_allPoints _).1 (List.mem_of_mem_filter hk)
      rintro rfl
      cases point
    simp only [State.urgent, other, decide_false, Bool.false_or]
  rw [State.entryQueue, held]
  congr 2
  · exact List.filter_congr fun k hk => urgent hk
  · refine List.filter_congr fun k hk => ?_
    rw [urgent hk, hdeferred, decide_not]

/-- Settles O48: the queue has slot 0's entry, so that the idle transmitter wakes. -/
theorem listeningEndsInStep : Obligations.ListeningEndsInStep := by
  refine ⟨fun e s slots deferred listening timer past idle hdeferred hslots => exec_yields rfl ?_,
    fun s before => exec_yields rfl (listeningTimerEnd_of_before before)⟩
  have agree (k : Nat) : s.origin.slotDeferred k = deferred k := by
    rw [hdeferred, Bool.eq_iff_iff, s.origin.slotDeferred_iff, decide_eq_true_iff]
  have queue := s.entryQueue_eq agree hslots
  refine (listeningTimerEnd_of_past listening timer past).trans ?_
  rw [State.wake_eq, State.enteredOrigin, queue]
  simp only [idle, ne_eq, reduceCtorEq, not_false_eq_true, true_or, and_self, if_true]
  rfl

/-! ### A REJOIN -/

theorem State.lineFree_iff (s : State) : s.lineFree = true ↔
    s.tx.state.isSending = false ∧ (∀ r, s.rx.run = some r → r.echo = false) ∧
      ∀ e, s.tx.outEnd = some e → e ≤ s.rx.clock := by
  rw [State.lineFree, Bool.and_eq_true, Bool.and_eq_true, s.outputFree_iff, Bool.not_eq_true', and_assoc]
  cases s.rx.run <;> simp [and_comm]

theorem transmitterRejoinPart_of_begun {s : State} {d : Bool} (begun : s.loader.rejoin = some ⟨false, d⟩)
    (free : s.lineFree = true) : transmitterRejoinPart s = { s with
      loader := { s.loader with rejoin := some ⟨true, d⟩ }, tx := s.tx.rejoinPart, origin := s.origin.rejoinPart } := by
  simp only [transmitterRejoinPart, begun]
  exact if_pos free

theorem transmitterRejoinPart_of_not {s : State}
    (h : s.lineFree = false ∨ ∀ done, s.loader.rejoin ≠ some ⟨false, done⟩) : transmitterRejoinPart s = s := by
  obtain same | ⟨d, begun, free, -⟩ := transmitterRejoinPart_cases s
  · exact same
  · rw [free] at h
    exact absurd begun (h.resolve_left nofun d)

theorem rejoinComplete_of_done {s : State} (done : s.loader.rejoin = some ⟨true, true⟩) (taken : s.clearsTaken = true) :
    rejoinComplete s = { s with
      loader := { s.loader with
        state := .listening, rejoin := none, listenEnd := some (s.now + listeningTicks s.window s.own) }
      port := { s.port.post .rejoinOk with service := .free } } := by
  simp only [rejoinComplete, done]
  exact if_pos taken

theorem rejoinComplete_of_not {s : State} (h : s.clearsTaken = false ∨ s.loader.rejoin ≠ some ⟨true, true⟩) :
    rejoinComplete s = s := by
  obtain same | ⟨done, taken, -⟩ := rejoinComplete_cases s
  · exact same
  · rw [taken] at h
    exact absurd done (h.resolve_left nofun)

theorem DumpEngine.active_eq_false {d : DumpEngine} : d.active = false ↔ d = .none := by
  cases d <;> simp [DumpEngine.active]

theorem DumpEngine.active_iff {d : DumpEngine} : d.active = true ↔ d ≠ .none := by
  rw [ne_eq, ← DumpEngine.active_eq_false, Bool.not_eq_false]

theorem State.served_of_head {s : State} {q : Request} {rest : List Request} (free : s.port.service = .free)
    (head : s.port.requests = q :: rest) (loaded : s.loader.state ≠ .loading) (unwaited : s.port.dumpEndWaiting = false)
    (room : s.port.reports.length + s.port.placesFor q ≤ 64) : s.served = some q :=
  State.served_eq_some.2 ⟨free, by rw [head]; rfl, loaded, unwaited, room⟩

theorem rejoin_of_served {s : State} (served : s.served = some .rejoin) (running : s.loader.state ≠ .halted) :
    rejoin s = s.rejoinBegun := by
  simp only [rejoin, served]
  exact if_neg running

/-- What an active dump's end leaves of the port (R181). -/
theorem DispatcherPort.endDump_reports (p : DispatcherPort) (reason : DumpEndReason) : p.endDump reason = { p with
    reports := p.reports ++ if p.dump = .none then [] else [.dumpEnd reason], dump := .none } := by
  rw [p.endDump_eq]
  cases p.dump <;> simp [DumpEngine.active]

/-- The places a request that ends an active dump needs (R168, R181). -/
theorem DispatcherPort.placesFor_rejoin (p : DispatcherPort) :
    p.placesFor .rejoin = if p.dump = .none then 1 else 2 := by
  cases hd : p.dump <;> simp [DispatcherPort.placesFor, DumpEngine.active, hd]

/-- Settles O46: the beginning, the two parts and the completion of a REJOIN, each by its own command. -/
theorem rejoinIsCarriedOut : Obligations.RejoinIsCarriedOut := by
  intro rest d s
  refine ⟨fun free head loaded running unwaited room => exec_yields rfl ?_,
    fun quiet hquiet busy => exec_yields rfl (transmitterRejoinPart_of_not (.inl ?_)),
    fun begun resting closed ended => exec_yields rfl ?_,
    fun waiting => exec_yields rfl (rejoinComplete_of_not (.inl ?_)),
    fun done reports updates => exec_yields rfl ?_,
    fun h => exec_yields rfl (transmitterRejoinPart_of_not (.inr h)),
    fun h => exec_yields rfl (rejoinComplete_of_not (.inr h))⟩
  · rw [← s.port.placesFor_rejoin] at room
    refine (rejoin_of_served (State.served_of_head free head loaded unwaited room) running).trans ?_
    simp only [State.rejoinBegun, State.takeRequest, DispatcherPort.endDump_reports, head, List.drop_one, List.tail_cons]
  · rw [← Bool.not_eq_true, s.lineFree_iff, ← hquiet]
    exact busy
  · exact transmitterRejoinPart_of_begun begun (s.lineFree_iff.2 ⟨resting, closed, ended⟩)
  · rw [← Bool.not_eq_true, s.clearsTaken_iff]
    rintro ⟨reports, updates⟩
    exact waiting.elim (fun ⟨r, mem, source⟩ => reports r mem source) updates
  · exact rejoinComplete_of_done done (s.clearsTaken_iff.2 ⟨reports, updates⟩)

end Sys2Proof.Machine

/-!
PROOFS. The request service (R168, R169): which request its commands take, and the answer to each.
-/
namespace Sys2Proof.Machine

/-! ### The request in service and its command -/

/-- The command that serves a request. -/
def Request.command : Request → Instr
  | .status => .status
  | .view _ _ => .view
  | .dump _ => .dump
  | .next => .next
  | .stop => .stop
  | .ack _ _ _ => .ack
  | .rejoin => .rejoin
  | .malformed _ => .malformedRequest

/-- The commands of the request service. -/
def serviceCommands : List Instr := [.status, .view, .dump, .next, .stop, .ack, .rejoin, .malformedRequest]

theorem commandBlock_of_mem_service {i : Instr} (h : i ∈ serviceCommands) :
    commandBlock i = .service ∧ i.wellFormed = true := by
  simp only [serviceCommands, List.mem_cons, List.not_mem_nil, or_false] at h
  obtain rfl | rfl | rfl | rfl | rfl | rfl | rfl | rfl := h
  all_goals exact ⟨rfl, rfl⟩

/-- A command that is not the served request's own changes nothing. -/
theorem service_of_other {i : Instr} (hb : commandBlock i = .service) {s : State}
    (h : ∀ q, s.served = some q → i ≠ q.command) : effect i s = s := by
  cases i <;> cases hb
  case status =>
    simp only [effect, status]
    split
    next hq => exact absurd rfl (h _ hq)
    next => rfl
  case view =>
    simp only [effect, view]
    split
    next f w hq => exact absurd rfl (h _ hq)
    next => rfl
  case dump =>
    simp only [effect, dump]
    split
    next src hq => exact absurd rfl (h _ hq)
    next => rfl
  case next =>
    simp only [effect, next]
    split
    next hq => exact absurd rfl (h _ hq)
    next => rfl
  case stop =>
    simp only [effect, stop]
    split
    next hq => exact absurd rfl (h _ hq)
    next => rfl
  case ack =>
    simp only [effect, ack]
    split
    next o p seen hq => exact absurd rfl (h _ hq)
    next => rfl
  case rejoin =>
    simp only [effect, rejoin]
    split
    next hq => exact absurd rfl (h _ hq)
    next => rfl
  case malformedRequest =>
    simp only [effect, malformedRequest]
    split
    next hq => exact absurd rfl (h _ hq)
    next => rfl

theorem DispatcherPort.placesFor_view (p : DispatcherPort) (f : ViewFilter) (w : Bool) :
    p.placesFor (.view f w) = if p.dump = .none then 1 else 2 :=
  p.placesFor_rejoin

/-- The free places of the report queue that each request needs (R168). -/
theorem DispatcherPort.placesFor_eq (p : DispatcherPort) (q : Request) : p.placesFor q = match q with
    | .dump _ | .next => 2
    | .view _ _ | .rejoin => if p.dump = .none then 1 else 2
    | _ => 1 := by
  cases q with
  | view f w => exact p.placesFor_view f w
  | rejoin => exact p.placesFor_rejoin
  | _ => rfl

/-! ### The answers -/

section Answers

variable {s : State} {q : Request} {rest : List Request}

theorem State.reply_of_head (head : s.port.requests = q :: rest) (r : Report) : s.reply r = { s with port := { s.port with
    requests := rest, reports := s.port.reports ++ [r] } } := by
  simp only [State.reply, DispatcherPort.post, head, List.drop_one, List.tail_cons]

theorem DispatcherPort.endDump_of_none {p : DispatcherPort} (h : p.dump = .none) (reason : DumpEndReason) :
    p.endDump reason = p :=
  if_neg (by rw [DumpEngine.active_iff]; exact not_not.2 h)

theorem DispatcherPort.endDump_of_active {p : DispatcherPort} (h : p.dump ≠ .none) (reason : DumpEndReason) :
    p.endDump reason = { p with reports := p.reports ++ [.dumpEnd reason], dump := .none } :=
  if_pos (DumpEngine.active_iff.2 h)

theorem status_of_served (served : s.served = some .status) : status s = s.reply (.statusReply s.statusBody) := by
  simp only [status, served]

theorem malformedRequest_of_served {type : Byte} (served : s.served = some (.malformed type)) :
    malformedRequest s = s.reply (.refused type .malformed 0 0) := by
  simp only [malformedRequest, served]
  rfl

theorem view_of_served {f : ViewFilter} {w : Bool} (served : s.served = some (.view f w)) : view s =
    if s.loader.state = .halted then s.reply (.refused 2 .notReady 0 0)
    else State.reply { s with port := { s.port.endDump .filterChanged with filter := f, watch := w } } .viewOk := by
  simp only [view, served]
  rfl

theorem dump_of_halted {src : DumpSource} (served : s.served = some (.dump src)) (halted : s.loader.state = .halted) :
    dump s = s.reply (.refused 3 .notReady 0 0) := by
  simp only [dump, served]
  exact if_pos halted

theorem dump_of_none {src : DumpSource} (served : s.served = some (.dump src)) (running : s.loader.state ≠ .halted)
    (idle : s.port.dump = .none) : dump s = s.offerPage src .start := by
  simp only [dump, served, idle]
  exact if_neg running

theorem dump_of_active {src : DumpSource} (served : s.served = some (.dump src)) (running : s.loader.state ≠ .halted)
    (active : s.port.dump ≠ .none) : dump s = s.reply (.refused 3 .busy 0 0) := by
  simp only [dump, served]
  rw [if_neg running]
  rfl

theorem next_of_halted (served : s.served = some .next) (halted : s.loader.state = .halted) :
    next s = s.reply (.refused 4 .notReady 0 0) := by
  simp only [next, served]
  exact if_pos halted

theorem next_of_opened (served : s.served = some .next) (running : s.loader.state ≠ .halted) {src : DumpSource}
    {cur : Cursor} {idle : Option Nat} (opened : s.port.dump = .opened src cur idle) : next s = s.offerPage src cur := by
  simp only [next, served, opened]
  exact if_neg running

theorem next_of_none (served : s.served = some .next) (running : s.loader.state ≠ .halted)
    (idle : s.port.dump = .none) : next s = s.reply (.refused 4 .noDump 0 0) := by
  simp only [next, served, idle]
  exact if_neg running

theorem stop_of_halted (served : s.served = some .stop) (halted : s.loader.state = .halted) :
    stop s = s.reply (.refused 5 .notReady 0 0) := by
  simp only [stop, served]
  exact if_pos halted

theorem stop_of_opened (served : s.served = some .stop) (running : s.loader.state ≠ .halted) {src : DumpSource}
    {cur : Cursor} {idle : Option Nat} (opened : s.port.dump = .opened src cur idle) :
    stop s = { s.takeRequest with port := s.takeRequest.port.endDump .stopped } := by
  simp only [stop, served, opened]
  exact if_neg running

theorem stop_of_none (served : s.served = some .stop) (running : s.loader.state ≠ .halted)
    (idle : s.port.dump = .none) : stop s = s.reply (.refused 5 .noDump 0 0) := by
  simp only [stop, served, idle]
  exact if_neg running

theorem rejoin_of_halted (served : s.served = some .rejoin) (halted : s.loader.state = .halted) :
    rejoin s = s.reply (.refused 7 .notReady 0 0) := by
  simp only [rejoin, served]
  exact if_pos halted

end Answers

/-- Settles O44: the request that is served decides; each command answers its own and leaves every other. -/
theorem requestsAreAnswered : Obligations.RequestsAreAnswered := by
  refine ⟨fun q rest s places answered free head loaded hplaces unwaited room hanswered => ?_,
    fun q rest s answered free head loaded running unwaited room hanswered => ?_,
    fun i s hi blocked => ?_, fun q rest i own s head hown hi other => ?_⟩
  · have places_eq : s.port.placesFor q = places := (s.port.placesFor_eq q).trans hplaces.symm
    have served : s.served = some q := State.served_of_head free head loaded unwaited (by rwa [places_eq])
    subst hanswered
    refine ⟨?_, ?_, ?_, fun halted => ⟨?_, ?_, ?_, ?_, ?_⟩⟩
    · rintro rfl
      exact exec_yields rfl ((status_of_served served).trans (State.reply_of_head head _))
    · rintro type rfl
      exact exec_yields rfl ((malformedRequest_of_served served).trans (State.reply_of_head head _))
    · rintro f w rfl running
      have answer := (view_of_served served).trans (if_neg running)
      refine ⟨fun idle => exec_yields rfl (answer.trans ?_), fun active => exec_yields rfl (answer.trans ?_)⟩
      · simp only [DispatcherPort.endDump_of_none idle, State.reply, DispatcherPort.post, head, List.drop_one,
          List.tail_cons]
      · simp only [DispatcherPort.endDump_of_active active, State.reply, DispatcherPort.post, head, List.drop_one,
          List.tail_cons, List.append_assoc, List.cons_append, List.nil_append]
    · rintro f w rfl
      exact exec_yields rfl ((view_of_served served).trans ((if_pos halted).trans (State.reply_of_head head _)))
    · rintro src rfl
      exact exec_yields rfl ((dump_of_halted served halted).trans (State.reply_of_head head _))
    · rintro rfl
      exact exec_yields rfl ((next_of_halted served halted).trans (State.reply_of_head head _))
    · rintro rfl
      exact exec_yields rfl ((stop_of_halted served halted).trans (State.reply_of_head head _))
    · rintro rfl
      exact exec_yields rfl ((rejoin_of_halted served halted).trans (State.reply_of_head head _))
  · have served := State.served_of_head free head loaded unwaited
    have drop : s.port.requests.drop 1 = rest := by rw [head]; rfl
    subst hanswered
    refine ⟨?_, ?_, ?_⟩
    · rintro src rfl
      refine ⟨fun idle => exec_yields rfl ((dump_of_none (served room) running idle).trans ?_),
        fun active => exec_yields rfl ((dump_of_active (served room) running active).trans (State.reply_of_head head _))⟩
      simp only [State.offerPage, State.takeRequest, drop]
    · rintro rfl
      refine ⟨fun src cur idle opened => exec_yields rfl ((next_of_opened (served room) running opened).trans ?_),
        fun idle => exec_yields rfl ((next_of_none (served room) running idle).trans (State.reply_of_head head _))⟩
      simp only [State.offerPage, State.takeRequest, drop]
    · rintro rfl
      refine ⟨fun src cur idle opened => exec_yields rfl ((stop_of_opened (served room) running opened).trans ?_),
        fun idle => exec_yields rfl ((stop_of_none (served room) running idle).trans (State.reply_of_head head _))⟩
      have active : s.takeRequest.port.dump ≠ .none := by
        rw [State.takeRequest_port]
        simp [opened]
      rw [DispatcherPort.endDump_of_active active]
      simp only [State.takeRequest, drop]
  · obtain ⟨block, ok⟩ := commandBlock_of_mem_service hi
    refine exec_yields ok (service_of_other block fun q served => ?_)
    obtain ⟨free, head, loaded, unwaited, room⟩ := State.served_eq_some.1 served
    obtain busy | empty | loading | waiting | ⟨q', rest, places, head', hplaces, full⟩ := blocked
    · exact absurd free busy
    · rw [empty] at head
      cases head
    · exact absurd loading loaded
    · rw [waiting] at unwaited
      cases unwaited
    · rw [head'] at head
      cases head
      rw [(s.port.placesFor_eq q).trans hplaces.symm] at room
      exact absurd room (Nat.not_le.2 full)
  · obtain ⟨block, ok⟩ := commandBlock_of_mem_service hi
    refine exec_yields ok (service_of_other block fun q' served => ?_)
    obtain ⟨-, head', -⟩ := State.served_eq_some.1 served
    rw [head] at head'
    cases head'
    have own_eq : own = q.command := by
      rw [hown]
      cases q <;> rfl
    rwa [← own_eq]

/-! ### ACK -/

section Ack

variable {s : State} {o p : Nat} {seen : Version} {r : Record}

/-- The station takes acknowledgements of the origin (R155). -/
abbrev State.acksOrigin (s : State) (o : Nat) : Prop :=
  s.loader.state = .inStep ∨ (o ≠ s.own ∧ s.loader.state = .mute)

theorem State.ackCheck_of_not_ready (h : ¬s.acksOrigin o) : s.ackCheck o p seen = some .notReady :=
  if_pos h

section Ready

variable (ready : s.acksOrigin o)
include ready

theorem State.ackCheck_of_none (found : findRecord s.table.cft ⟨o, p⟩ = none) :
    s.ackCheck o p seen = some .noRecord := by
  simp only [State.ackCheck, if_neg (not_not.2 ready), found]

variable (found : findRecord s.table.cft ⟨o, p⟩ = some r)
include found

theorem State.ackCheck_of_cleared (closed : r.state = .cleared) : s.ackCheck o p seen = some .notOpen := by
  simp only [State.ackCheck, if_neg (not_not.2 ready), found, closed]
  rfl

variable (opened : r.state = .opened)
include opened

theorem State.ackCheck_of_changed (changed : r.version ≠ seen) : s.ackCheck o p seen = some .changed := by
  simp only [State.ackCheck, if_neg (not_not.2 ready), found, opened, ne_eq, not_true_eq_false, if_false]
  exact if_pos changed

variable (same : r.version = seen)
include same

theorem State.ackCheck_of_marked (marked : r.ackMark ≠ none) : s.ackCheck o p seen = some .already := by
  simp only [State.ackCheck, if_neg (not_not.2 ready), found, opened, same, ne_eq, not_true_eq_false, if_false]
  exact if_pos marked

variable (unmarked : r.ackMark = none)
include unmarked

theorem State.ackCheck_of_own (own : o = s.own) : s.ackCheck o p seen = none := by
  simp only [State.ackCheck, if_neg (not_not.2 ready), found, opened, same, unmarked, ne_eq, not_true_eq_false,
    if_false]
  exact if_pos own

variable (peer : o ≠ s.own)
include peer

/-- The checks of a peer's record, once its state, version and mark have passed (R155). -/
theorem State.ackCheck_of_peer : s.ackCheck o p seen =
    if (s.roster.find o).map (·.state) ≠ some .present then some .originSilent
    else if s.origin.ackSlot.isSome then some .busy else none := by
  simp only [State.ackCheck, if_neg (not_not.2 ready), found, opened, same, unmarked, ne_eq, not_true_eq_false,
    if_false]
  exact if_neg peer

theorem State.ackCheck_of_silent (silent : ∀ e, s.roster.find o = some e → e.state = .silent) :
    s.ackCheck o p seen = some .originSilent := by
  rw [State.ackCheck_of_peer ready found opened same unmarked peer, if_pos]
  intro present
  obtain ⟨e, he, state⟩ := Option.map_eq_some_iff.1 present
  rw [silent e he] at state
  cases state

variable {e : RosterEntry} (he : s.roster.find o = some e) (present : e.state = .present)
include he present

theorem State.ackCheck_of_present :
    s.ackCheck o p seen = if s.origin.ackSlot.isSome then some .busy else none := by
  rw [State.ackCheck_of_peer ready found opened same unmarked peer, he, Option.map_some, present]
  exact if_neg (not_not.2 rfl)

end Ready

theorem ack_of_refused (served : s.served = some (.ack o p seen)) {reason : RefusalReason}
    (check : s.ackCheck o p seen = some reason) : ack s = s.reply (.refused 6 reason o p) := by
  simp only [ack, served, check]
  rfl

theorem ack_of_own (served : s.served = some (.ack o p seen)) (check : s.ackCheck o p seen = none) (own : o = s.own) :
    ack s = { s.takeRequest with port := { s.takeRequest.port with service := .ownAck o p seen } } := by
  simp only [ack, served, check]
  exact if_pos own

theorem ack_of_peer (served : s.served = some (.ack o p seen)) (check : s.ackCheck o p seen = none)
    (peer : o ≠ s.own) : ack s = (s.reply (.ackReply o p .queued)).fillAckSlot
      { origin := o, point := p, seen := seen, tag := s.peerTag o } := by
  simp only [ack, served, check]
  exact if_neg peer

theorem State.peerTag_of_find {e : RosterEntry} (he : s.roster.find o = some e) : s.peerTag o = e.tag.getD 0 := by
  rw [State.peerTag, he]
  rfl

/-- A filled ack slot is work for the transmitter (R136, R158). -/
theorem State.fillAckSlot_eq (s : State) (a : AckEntry) : s.fillAckSlot a = { s with
    origin := { s.origin with ackSlot := some a }
    tx := { s.tx with state := if s.loader.state = .inStep ∧ s.tx.state = .idle then .waiting else s.tx.state } } := by
  rw [State.fillAckSlot, State.wake_eq]
  simp only [ne_eq, reduceCtorEq, not_false_eq_true, true_or, or_true, and_true]

end Ack

/-- Settles O45: the checks of R155 one after the other, each with its refusal, and the two ways to pass them. -/
theorem acksAreCheckedInOrder : Obligations.AcksAreCheckedInOrder := by
  intro o p seen rest s refused free head loaded unwaited room hrefused
  have served := State.served_of_head free head loaded unwaited room
  have refuse {reason : RefusalReason} (check : s.ackCheck o p seen = some reason) : exec .ack s = refused reason := by
    rw [hrefused]
    exact exec_yields rfl ((ack_of_refused served check).trans (State.reply_of_head head _))
  refine ⟨fun other others => refuse (State.ackCheck_of_not_ready ?_), fun ready =>
    ⟨fun found => refuse (State.ackCheck_of_none ready found), fun r found =>
      ⟨fun closed => refuse (State.ackCheck_of_cleared ready found closed),
        fun opened changed => refuse (State.ackCheck_of_changed ready found opened changed),
        fun opened same marked => refuse (State.ackCheck_of_marked ready found opened same marked),
        fun opened same unmarked => ⟨fun own => exec_yields rfl ?_, fun peer =>
          ⟨fun silent => refuse (State.ackCheck_of_silent ready found opened same unmarked peer silent),
            fun e he present => ⟨fun filled => refuse ?_, fun empty => ?_⟩⟩⟩⟩⟩⟩
  · rintro (inStep | ⟨peer, mute⟩)
    · exact other inStep
    · exact others.elim peer (absurd mute)
  · have check := State.ackCheck_of_own ready found opened same unmarked own
    refine (ack_of_own served check own).trans ?_
    simp only [State.takeRequest, head, List.drop_one, List.tail_cons]
  · rw [State.ackCheck_of_present ready found opened same unmarked peer he present]
    exact if_pos (Option.isSome_iff_ne_none.2 filled)
  · have check : s.ackCheck o p seen = none := by
      rw [State.ackCheck_of_present ready found opened same unmarked peer he present, empty]
      rfl
    have answer := ack_of_peer served check peer
    rw [State.reply_of_head head, State.fillAckSlot_eq, State.peerTag_of_find he] at answer
    exact ⟨_, exec_yields rfl answer, rfl, rfl, rfl⟩

end Sys2Proof.Machine

/-!
PROOFS. The request assembler (R166, R167): the characters of a request, its gap, its judgement and its place in the
queue.
-/
namespace Sys2Proof.Machine

/-! ### The checksum of the port's framing (R209) -/

theorem checksum_eq_iff (l : List Byte) (sum : Byte) : sum = checksum l ↔ l.foldr (· + ·) 0 + sum = 0 := by
  rw [checksum, List.foldl_eq_foldr, BitVec.add_comm]
  exact eq_neg_iff_add_eq_zero

/-- The sum over the framing's type, length and body. -/
theorem foldr_framed (type length : Byte) (body : List Byte) :
    (type :: length :: body).foldr (· + ·) 0 = type + length + body.foldr (· + ·) 0 :=
  (BitVec.add_assoc ..).symm

/-! ### The assembler -/

section Gap

variable {p : DispatcherPort} {now : Nat}

theorem DispatcherPort.settleGap_of_idle (idle : p.assembler = .idle) : p.settleGap now = p := by
  simp only [DispatcherPort.settleGap, idle]

variable {chars : List Byte} {spoiled : Bool} {last : Nat}

theorem gapOver_eq_false (within : now ≤ last + 10) : gapOver last now = false :=
  decide_eq_false (Nat.not_lt.2 within)

theorem gapOver_eq_true (past : last + 10 < now) : gapOver last now = true :=
  decide_eq_true past

theorem DispatcherPort.settleGap_of_gathering (gathering : p.assembler = .gathering chars spoiled last) :
    p.settleGap now = if gapOver last now then
      { p with assembler := .idle, finished := p.finished ++ [.malformed (chars.headD 0)] } else p := by
  simp only [DispatcherPort.settleGap, gathering]
  rfl

theorem DispatcherPort.settleGap_of_ignoring (ignoring : p.assembler = .ignoring last) :
    p.settleGap now = if gapOver last now then { p with assembler := .idle } else p := by
  simp only [DispatcherPort.settleGap, ignoring]

end Gap

/-- The port with another state of the assembler, and with more finished requests. -/
def State.assembled (s : State) (a : RequestAssembler) (done : List Request) : State :=
  { s with port := { s.port with assembler := a, finished := s.port.finished ++ done } }

section Taken

variable {s : State} {char : Byte} {stopFound : Bool}

/-- A port in which nothing has finished. -/
theorem State.assembled_nil (s : State) (a : RequestAssembler) :
    s.assembled a [] = { s with port := { s.port with assembler := a } } := by
  simp only [State.assembled, List.append_nil]

theorem requestCharacterTaken_of_idle (idle : s.port.assembler = .idle) : requestCharacterTaken char stopFound s =
    if char = 0xF0 then s.assembled (.gathering [] (!stopFound) s.now) [] else s := by
  rw [requestCharacterTaken, DispatcherPort.settleGap_of_idle idle, State.assembled_nil]
  simp only [DispatcherPort.takeChar, idle]
  by_cases start : char = startByte
  · rw [if_pos start]
    exact (if_pos start).symm
  · rw [if_neg start]
    exact (if_neg start).symm

theorem requestCharacterTaken_of_gathering {chars all : List Byte} {spoiled bad : Bool} {last : Nat}
    (gathering : s.port.assembler = .gathering chars spoiled last) (within : s.now ≤ last + 10)
    (hall : all = chars ++ [char]) (hbad : bad = (spoiled || !stopFound)) :
    requestCharacterTaken char stopFound s =
      if all.length < 2 then s.assembled (.gathering all bad s.now) []
      else if 16 < byteAt all 1 then s.assembled (.ignoring s.now) [.malformed (all.headD 0)]
      else if all.length < 3 + byteAt all 1 then s.assembled (.gathering all bad s.now) []
      else s.assembled .idle [judgeRequest bad all] := by
  have settled : s.port.settleGap s.now = s.port := by
    rw [DispatcherPort.settleGap_of_gathering gathering, gapOver_eq_false within]
    rfl
  rw [requestCharacterTaken, settled, State.assembled_nil]
  simp only [DispatcherPort.takeChar, gathering, ← hall, ← hbad, DispatcherPort.gather]
  repeat' split
  all_goals rfl

theorem requestCharacterTaken_of_ignoring {last : Nat} (ignoring : s.port.assembler = .ignoring last)
    (within : s.now ≤ last + 10) : requestCharacterTaken char stopFound s = s.assembled (.ignoring s.now) [] := by
  have settled : s.port.settleGap s.now = s.port := by
    rw [DispatcherPort.settleGap_of_ignoring ignoring, gapOver_eq_false within]
    rfl
  rw [requestCharacterTaken, settled, State.assembled_nil]
  simp only [DispatcherPort.takeChar, ignoring]

/-- A gap that has been exceeded is settled ahead of the character. -/
theorem requestCharacterTaken_of_gap {done : List Request}
    (gap : s.port.settleGap s.now = (s.assembled .idle done).port) : requestCharacterTaken char stopFound s =
      requestCharacterTaken char stopFound (s.assembled .idle done) := by
  have settled : (s.assembled .idle done).port.settleGap s.now = (s.assembled .idle done).port :=
    DispatcherPort.settleGap_of_idle rfl
  rw [requestCharacterTaken, gap, ← settled]
  rfl

end Taken

/-! ### The gap's end -/

/-- What a request's offer does to the port does not touch the assembler. -/
theorem DispatcherPort.offer_assembler (p : DispatcherPort) (a : RequestAssembler) (r : Request) :
    { p.offer r with assembler := a } = ({ p with assembler := a } : DispatcherPort).offer r := by
  unfold DispatcherPort.offer
  split <;> rfl

theorem DispatcherPort.foldl_offer_assembler (l : List Request) (p : DispatcherPort) (a : RequestAssembler) :
    { l.foldl DispatcherPort.offer p with assembler := a } =
      l.foldl DispatcherPort.offer { p with assembler := a } := by
  induction l generalizing p with
  | nil => rfl
  | cons r l ih => rw [List.foldl_cons, ih, DispatcherPort.offer_assembler, List.foldl_cons]

theorem DispatcherPort.offerAll_assembler (p : DispatcherPort) (a : RequestAssembler) :
    { p.offerAll with assembler := a } =
      p.finished.foldl DispatcherPort.offer { p with finished := [], assembler := a } :=
  DispatcherPort.foldl_offer_assembler ..

section Timeout

variable {s : State} {chars : List Byte} {spoiled : Bool} {last : Nat}

theorem requestGapTimeout_of_gathering (gathering : s.port.assembler = .gathering chars spoiled last)
    (past : last + 10 ≤ s.now) : requestGapTimeout s = { s with
      port := (s.port.finished ++ [Request.malformed (chars.headD 0)]).foldl DispatcherPort.offer
        { s.port with finished := [], assembler := .idle } } := by
  simp only [requestGapTimeout, gathering]
  refine (if_pos past).trans ?_
  rw [DispatcherPort.offerAll_assembler, List.foldl_append]
  rfl

theorem requestGapTimeout_of_ignoring (ignoring : s.port.assembler = .ignoring last) (past : last + 10 ≤ s.now) :
    requestGapTimeout s = { s with port := { s.port with assembler := .idle } } := by
  simp only [requestGapTimeout, ignoring]
  exact if_pos past

theorem requestGapTimeout_of_idle (idle : s.port.assembler = .idle) : requestGapTimeout s = s := by
  simp only [requestGapTimeout, idle]

theorem requestGapTimeout_of_gathering_before (gathering : s.port.assembler = .gathering chars spoiled last)
    (before : s.now < last + 10) : requestGapTimeout s = s := by
  simp only [requestGapTimeout, gathering]
  exact if_neg (Nat.not_le.2 before)

theorem requestGapTimeout_of_ignoring_before (ignoring : s.port.assembler = .ignoring last)
    (before : s.now < last + 10) : requestGapTimeout s = s := by
  simp only [requestGapTimeout, ignoring]
  exact if_neg (Nat.not_le.2 before)

theorem requestComplete_of_cons {r : Request} {rest : List Request} (finished : s.port.finished = r :: rest) :
    requestComplete s = { s with port := { s.port with finished := rest }.offer r } := by
  simp only [requestComplete, finished]

theorem requestComplete_of_nil (finished : s.port.finished = []) : requestComplete s = s := by
  simp only [requestComplete, finished]

end Timeout

/-! ### The judgement of a request (R209, R210) -/

section Judge

variable {spoiled : Bool} {type sum : Byte} {body chars : List Byte}

/-- The request as framed: its type, its body's length, its body and its checksum. -/
abbrev framedRequest (type sum : Byte) (body : List Byte) : List Byte :=
  type :: BitVec.ofNat 8 body.length :: (body ++ [sum])

theorem judgeRequest_framed : judgeRequest spoiled (framedRequest type sum body) =
    if spoiled = true ∨ type + BitVec.ofNat 8 body.length + body.foldr (· + ·) 0 + sum ≠ 0 then .malformed type
    else (readRequest type.toNat body).getD (.malformed type) := by
  have dropLast : (framedRequest type sum body).dropLast = type :: BitVec.ofNat 8 body.length :: body := by
    rw [framedRequest, ← List.cons_append, ← List.cons_append, List.dropLast_concat]
  have last : (framedRequest type sum body).getLast? = some sum := by
    rw [framedRequest, ← List.cons_append, ← List.cons_append, List.getLast?_concat]
  have drop : ((framedRequest type sum body).drop 2).dropLast = body := by
    rw [framedRequest, List.drop_succ_cons, List.drop_succ_cons, List.drop_zero, List.dropLast_concat]
  simp only [judgeRequest, dropLast, last, drop, Option.some_inj, checksum_eq_iff, foldr_framed, ne_eq, Bool.or_eq_true,
    decide_eq_true_eq, List.headD_cons]
  refine if_congr Iff.rfl rfl ?_
  cases readRequest type.toNat body <;> rfl

/-- The dump sources that a code can name are three (R213). -/
theorem DumpSource.ofCode_eq_none {n : Nat} (h : n = 0 ∨ 3 < n) : DumpSource.ofCode n = none := by
  unfold DumpSource.ofCode
  split <;> first | omega | rfl

theorem filterMap_bit (b : Byte) (i : Nat) (k : Kind) (l : List (Nat × Kind)) :
    ((i, k) :: l).filterMap (fun x => if b.getLsbD x.1 then some x.2 else none) =
      (if b.getLsbD i then [k] else []) ++ l.filterMap (fun x => if b.getLsbD x.1 then some x.2 else none) := by
  cases h : b.getLsbD i <;> simp [h]

/-- The kinds that a VIEW names, bit by bit (R209). -/
theorem kindsOfBits_eq (b : Byte) : kindsOfBits b = (if b.getLsbD 0 then [Kind.lamp] else []) ++
    (if b.getLsbD 1 then [Kind.loop] else []) ++ (if b.getLsbD 2 then [Kind.sign] else []) ++
    (if b.getLsbD 3 then [Kind.supply] else []) ++ (if b.getLsbD 4 then [Kind.station] else []) := by
  rw [kindsOfBits, filterMap_bit, filterMap_bit, filterMap_bit, filterMap_bit, filterMap_bit, List.filterMap_nil,
    List.append_nil, ← List.append_assoc, ← List.append_assoc, ← List.append_assoc]

theorem readRequest_view (sev kinds opts : Byte) : readRequest 2 [sev, kinds, opts] =
    if 1 ≤ sev.toNat ∧ sev.toNat ≤ 4 ∧ kinds.toNat < 32 ∧ opts.toNat < 16 then
      some (.view { minSeverity := sev.toNat, kinds := kindsOfBits kinds, includeHeld := opts.getLsbD 0,
                    includeCleared := opts.getLsbD 1, includeStale := opts.getLsbD 2 } (opts.getLsbD 3))
    else none := by
  refine if_congr (P := (decide (1 ≤ sev.toNat) && decide (sev.toNat ≤ 4) && decide (kinds.toNat < 32) &&
    decide (opts.toNat < 16)) = true) ?_ rfl rfl
  simp only [Bool.and_eq_true, decide_eq_true_eq, and_assoc]

/-- A request is read only with a type that is known, and with the body length of its type. -/
theorem readRequest_of_unknown {t : Nat} (h : ¬((t = 1 ∨ t = 4 ∨ t = 5 ∨ t = 7) ∧ body.length = 0 ∨
    (t = 2 ∨ t = 6) ∧ body.length = 3 ∨ t = 3 ∧ body.length = 1)) : readRequest t body = none := by
  rcases body with _ | ⟨a, _ | ⟨b, _ | ⟨c, _ | ⟨d, l⟩⟩⟩⟩
  all_goals
    rcases t with _ | _ | _ | _ | _ | _ | _ | _ | t
    all_goals first
      | rfl
      | exact absurd (by simp) h

end Judge

/-- Settles O43: the assembler case by case of its state, and the judgement by the checksum, then by type and body. -/
theorem requestsAreGathered : Obligations.RequestsAreGathered := by
  refine ⟨fun char stopFound s put hput => ?_, fun s => ⟨fun idle => exec_yields rfl (requestGapTimeout_of_idle idle),
    fun chars spoiled last gathering before => exec_yields rfl (requestGapTimeout_of_gathering_before gathering before),
    fun last ignoring before => exec_yields rfl (requestGapTimeout_of_ignoring_before ignoring before),
    fun finished => exec_yields rfl (requestComplete_of_nil finished)⟩, fun p r => rfl⟩
  have put_eq : put = s.assembled := hput
  rw [put_eq]
  refine ⟨fun idle => ⟨fun start => exec_yields rfl ?_, fun other => exec_yields rfl ?_⟩,
    fun chars spoiled last all bad gathering within hall hbad => exec_yields rfl ?_,
    fun last ignoring within => exec_yields rfl (requestCharacterTaken_of_ignoring ignoring within),
    fun chars spoiled last gathering past => ?_, fun last ignoring past => ?_,
    fun r rest finished => ⟨fun room => exec_yields rfl ?_, fun full => exec_yields rfl ?_⟩,
    fun chars spoiled last p gathering past hp => exec_yields rfl ?_,
    fun last ignoring past => exec_yields rfl (requestGapTimeout_of_ignoring ignoring past),
    fun spoiled type sum body chars judged length hchars hjudged => ?_⟩
  · exact (requestCharacterTaken_of_idle idle).trans (if_pos start)
  · exact (requestCharacterTaken_of_idle idle).trans (if_neg other)
  · exact requestCharacterTaken_of_gathering gathering within hall hbad
  · refine congrArg Host.Outcome.next (requestCharacterTaken_of_gap ?_)
    rw [DispatcherPort.settleGap_of_gathering gathering, gapOver_eq_true past]
    rfl
  · refine congrArg Host.Outcome.next (requestCharacterTaken_of_gap ?_)
    rw [DispatcherPort.settleGap_of_ignoring ignoring, gapOver_eq_true past, State.assembled_nil]
    rfl
  · refine (requestComplete_of_cons finished).trans ?_
    rw [DispatcherPort.offer, if_pos (show _ < Config.requestPlaces from room)]
  · refine (requestComplete_of_cons finished).trans ?_
    rw [DispatcherPort.offer, if_neg (show ¬_ < Config.requestPlaces from Nat.not_lt.2 full)]
  · rw [hp]
    exact requestGapTimeout_of_gathering gathering past
  · rw [hjudged, hchars, judgeRequest_framed]
    refine ⟨fun unsound => if_pos unsound, fun stops balanced => ?_⟩
    have sound : ¬(spoiled = true ∨ type + BitVec.ofNat 8 body.length + body.foldr (· + ·) 0 + sum ≠ 0) := by
      rw [stops, balanced]
      simp
    rw [if_neg sound]
    refine ⟨?_, ?_, ?_, ?_, ?_, ?_, ?_, fun unknown => ?_⟩
    · rintro rfl rfl
      rfl
    · rintro rfl rfl
      rfl
    · rintro rfl rfl
      rfl
    · rintro rfl rfl
      rfl
    · rintro src rfl rfl
      refine ⟨?_, ?_, ?_, fun none => ?_⟩
      · rintro rfl
        rfl
      · rintro rfl
        rfl
      · rintro rfl
        rfl
      · have unnamed : src.toNat = 0 ∨ 3 < src.toNat := none.imp_left (congrArg BitVec.toNat)
        change ((DumpSource.ofCode src.toNat).map Request.dump).getD _ = _
        rw [DumpSource.ofCode_eq_none unnamed]
        rfl
    · rintro origin point seen rfl rfl
      rfl
    · rintro sev kinds opts rfl rfl
      have read := readRequest_view sev kinds opts
      refine ⟨fun sane => ?_, fun insane => ?_⟩
      · rw [if_pos sane, kindsOfBits_eq] at read
        exact congrArg (Option.getD · _) read
      · rw [if_neg insane] at read
        exact congrArg (Option.getD · _) read
    · have typed (n : Byte) : type.toNat = n.toNat ↔ type = n := BitVec.toNat_inj
      rw [← typed 1, ← typed 2, ← typed 3, ← typed 4, ← typed 5, ← typed 6, ← typed 7] at unknown
      rw [readRequest_of_unknown unknown]
      rfl

end Sys2Proof.Machine

/-!
PROOFS. The reports out (R165, R170, R172, R180), and how each report is laid out in characters (R209, R213).
-/
namespace Sys2Proof.Machine

/-! ### Sending -/

section Sending

variable {s : State} {r : Report} {rest : List Report}

theorem readyAsserted_of_next {c : Byte} (head : s.port.reports = r :: rest) (next : r.chars[s.port.sent]? = some c) :
    readyAsserted s = { s with port := { s.port with sent := s.port.sent + 1, lastOut := some c } } := by
  simp only [readyAsserted, head, next]

theorem readyAsserted_of_sent (head : s.port.reports = r :: rest) (sent : r.chars.length ≤ s.port.sent) :
    readyAsserted s = s := by
  simp only [readyAsserted, head, List.getElem?_eq_none sent]

theorem readyAsserted_of_nil (empty : s.port.reports = []) : readyAsserted s = s := by
  simp only [readyAsserted, empty]

theorem reportDelivered_of_nil (empty : s.port.reports = []) : reportDelivered s = s := by
  simp only [reportDelivered, empty]

theorem reportDelivered_of_unsent (head : s.port.reports = r :: rest) (unsent : s.port.sent ≠ r.chars.length) :
    reportDelivered s = s := by
  simp only [reportDelivered, head]
  exact if_neg unsent

theorem reportDelivered_of_sent (head : s.port.reports = r :: rest) (sent : s.port.sent = r.chars.length) :
    reportDelivered s = { s with port :=
      (({ s.port with reports := rest, sent := 0 }.pageDelivered s.now r).postWaiting).postResync } := by
  simp only [reportDelivered, head]
  exact if_pos sent

theorem Report.isPage_iff (r : Report) : r.isPage = true ↔ ∃ items, r = .page items := by
  cases r <;> simp [Report.isPage]

/-- The dump's idle deadline after a report's delivery (R180). -/
def DumpEngine.delivered (d : DumpEngine) (now : Nat) (latest : Prop) [Decidable latest] : DumpEngine :=
  match d with
  | .opened src cur idle => .opened src cur (if latest then some (now + 6000) else idle)
  | other => other

theorem DispatcherPort.pageDelivered_dump (p : DispatcherPort) (now : Nat) (r : Report) :
    (p.pageDelivered now r).dump = p.dump.delivered now (r.isPage = true ∧ ∀ x ∈ p.reports, x.isPage = false) := by
  have latest_iff : (r.isPage && !p.reports.any Report.isPage) = true ↔
      r.isPage = true ∧ ∀ x ∈ p.reports, x.isPage = false := by
    simp
  unfold DispatcherPort.pageDelivered DumpEngine.delivered
  cases hd : p.dump with
  | opened src cur idle =>
    by_cases latest : r.isPage = true ∧ ∀ x ∈ p.reports, x.isPage = false
    · simp only [if_pos latest, if_pos (latest_iff.2 latest)]
      rfl
    · simp only [if_neg latest, if_neg (mt latest_iff.1 latest), hd]
  | none => exact hd
  | building src cur => exact hd

theorem DispatcherPort.postWaiting_reports (p : DispatcherPort) : p.postWaiting = { p with
    reports := if p.dumpEndWaiting then p.reports ++ [.dumpEnd .timedOut] else p.reports, dumpEndWaiting := false } := by
  unfold DispatcherPort.postWaiting
  cases h : p.dumpEndWaiting with
  | true => rfl
  | false => exact congrArg (fun waiting => ({ p with dumpEndWaiting := waiting } : DispatcherPort)) h

theorem DispatcherPort.postResync_reports (p : DispatcherPort) {posts : Bool}
    (hposts : posts = (p.resync && decide (p.reports.length < p.limit))) : p.postResync = { p with
      reports := if posts then p.reports ++ [.resync] else p.reports, resync := p.resync && !posts } := by
  unfold DispatcherPort.postResync
  rw [← hposts]
  cases posts with
  | true => simp [DispatcherPort.post]
  | false => simp

/-- What the departure of the head report does to the port (R170, R172, R180). -/
theorem DispatcherPort.departed_eq (p : DispatcherPort) (now : Nat) (r : Report) {afterEnd : List Report} {resyncs : Bool}
    (hafter : afterEnd = if p.dumpEndWaiting then p.reports ++ [.dumpEnd .timedOut] else p.reports)
    (hresyncs : resyncs = (p.resync && decide (afterEnd.length < p.limit))) :
    ((p.pageDelivered now r).postWaiting).postResync = { p with
      reports := if resyncs then afterEnd ++ [.resync] else afterEnd
      dumpEndWaiting := false
      resync := p.resync && !resyncs
      dump := p.dump.delivered now (r.isPage = true ∧ ∀ x ∈ p.reports, x.isPage = false) } := by
  rw [p.pageDelivered_eq, p.pageDelivered_dump, DispatcherPort.postWaiting_reports]
  dsimp only
  rw [← hafter, DispatcherPort.postResync_reports _ hresyncs]

theorem dumpIdleTimeout_of_before (h : ∀ src cur e, s.port.dump = .opened src cur (some e) → s.now < e) :
    dumpIdleTimeout s = s := by
  unfold dumpIdleTimeout
  split
  next src cur idle hd =>
    refine if_neg fun ended => ?_
    obtain ⟨e, rfl, past⟩ := (due_iff ..).1 ended
    exact Nat.not_lt.2 past (h src cur e hd)
  next => rfl

theorem dumpIdleTimeout_of_past {src : DumpSource} {cur : Cursor} {e : Nat} (opened : s.port.dump = .opened src cur (some e))
    (past : e ≤ s.now) : dumpIdleTimeout s =
      if s.port.reports.length + s.port.keptPlaces < 64 then { s with port := s.port.endDump .timedOut }
      else { s with port := { s.port with dump := .none, dumpEndWaiting := true } } := by
  simp only [dumpIdleTimeout, opened]
  exact if_pos ((due_iff ..).2 ⟨e, rfl, past⟩)

end Sending

/-! ### The characters of a report (R209) -/

/-- A report is framed by its type, its body's length and its checksum. -/
theorem Report.framed {r : Report} {type : Byte} {body : List Byte} (htype : r.typeCode = type) (hbody : r.body = body) :
    ∃ sum : Byte, r.chars = 0xF0 :: type :: BitVec.ofNat 8 body.length :: (body ++ [sum]) ∧
      type + BitVec.ofNat 8 body.length + body.foldr (· + ·) 0 + sum = 0 := by
  subst htype hbody
  refine ⟨checksum (r.typeCode :: BitVec.ofNat 8 r.body.length :: r.body), rfl, ?_⟩
  rw [← foldr_framed]
  exact (checksum_eq_iff _ _).1 rfl

theorem byte4_eq (n : Nat) : byte4 n = byte2 (n / 65536) ++ byte2 n := by
  rw [byte2, byte2, Nat.div_div_eq_div_mul]
  rfl

theorem toNat_decide (P : Prop) [Decidable P] : (decide P).toNat = if P then 1 else 0 := by
  by_cases h : P <;> simp [h]

/-- The condition byte of a record item: a station's conditions bit by bit, another record's code (R209). -/
theorem conditionByte_eq (r : Record) : conditionByte r = BitVec.ofNat 8 (if r.kind = .station then
      (if .numberClash ∈ r.conds then 1 else 0) + (if .groupClash ∈ r.conds then 2 else 0) +
      (if .tableFull ∈ r.conds then 4 else 0) + (if .lineMute ∈ r.conds then 8 else 0) +
      (if .groupTableFull ∈ r.conds then 16 else 0)
    else (r.conds.headD .lampOut).code) := by
  unfold conditionByte
  by_cases station : r.kind = .station
  · rw [if_pos station, if_pos station, flagsByte]
    simp only [List.contains_eq_mem, List.foldr_cons, List.foldr_nil, toNat_decide, Nat.mul_add, mul_ite, Nat.reduceMul]
    congr 1
    omega
  · rw [if_neg station, if_neg station]

/-- The flags of a record item (R209). -/
theorem itemFlags_eq (r : Record) (v : ViewState) :
    flagsByte ([decide (r.state = .cleared), r.flapping] ++ v.bits ++
      [decide (r.freshness = .stale), r.lastHeard.isSome, r.clearedAt.isSome]) =
    BitVec.ofNat 8 ((if r.state = .cleared then 1 else 0) + (if r.flapping then 2 else 0) +
      (match v with
        | .active => 0
        | .held => 4
        | .cleared => 8) +
      (if r.freshness = .stale then 16 else 0) + (if r.lastHeard = none then 0 else 32) +
      (if r.clearedAt = none then 0 else 64)) := by
  have heard : r.lastHeard.isSome.toNat = if r.lastHeard = none then 0 else 1 := by cases r.lastHeard <;> rfl
  have cleared : r.clearedAt.isSome.toNat = if r.clearedAt = none then 0 else 1 := by cases r.clearedAt <;> rfl
  have flapping : r.flapping.toNat = if r.flapping then 1 else 0 := by cases r.flapping <;> rfl
  rw [flagsByte]
  congr 1
  simp only [List.cons_append, List.nil_append, List.foldr_cons, List.foldr_append, List.foldr_nil, toNat_decide, heard,
    cleared, flapping, Nat.mul_add, mul_ite, Nat.reduceMul]
  cases v with
  | active =>
    simp only [ViewState.bits, List.foldr_cons, List.foldr_nil, Bool.toNat_false, Nat.mul_add, mul_ite, Nat.reduceMul]
    omega
  | held =>
    simp only [ViewState.bits, List.foldr_cons, List.foldr_nil, Bool.toNat_false, Bool.toNat_true, Nat.mul_add, mul_ite, Nat.reduceMul]
    omega
  | cleared =>
    simp only [ViewState.bits, List.foldr_cons, List.foldr_nil, Bool.toNat_false, Bool.toNat_true, Nat.mul_add, mul_ite, Nat.reduceMul]
    omega

theorem boolFlag_isSome {α : Type} (o : Option α) [Decidable (o = none)] :
    o.isSome.toNat = if o = none then 0 else 1 := by
  cases o <;> simp

theorem toNat_eq_ite (b : Bool) : b.toNat = if b then 1 else 0 := by
  cases b <;> rfl

theorem byte1_ite (P : Prop) [Decidable P] : byte1 (if P then 1 else 2) = [if P then 1 else 2] := by
  by_cases h : P
  · rw [if_pos h, if_pos h]
    rfl
  · rw [if_neg h, if_neg h]
    rfl

/-- The flags of STATUS-REPLY (R209). -/
theorem statusFlags_eq (b : StatusBody) : flagsByte [b.runTag.isSome, b.tableFull, b.groupTableFull, b.groupClash] =
    BitVec.ofNat 8 ((if b.runTag = none then 0 else 1) + (if b.tableFull then 2 else 0) +
      (if b.groupTableFull then 4 else 0) + (if b.groupClash then 8 else 0)) := by
  rw [flagsByte, List.foldr_cons, boolFlag_isSome]
  simp only [List.foldr_cons, List.foldr_nil, toNat_eq_ite, Nat.mul_add, mul_ite, Nat.reduceMul]
  congr 1
  omega

/-- The flags of a roster item (R209). -/
theorem stationFlags_eq (e : RosterEntry) : flagsByte [e.tag.isSome] = if e.tag = none then 0 else 1 := by
  cases e.tag <;> rfl

theorem RosterEntry.bytes_eq (e : RosterEntry) : e.bytes =
    [BitVec.ofNat 8 e.station, if e.state = .present then 1 else 2, if e.tag = none then 0 else 1] ++
      byte2 (e.tag.getD 0).toNat ++ byte4 e.lastHeard ++ byte2 e.window ++ byte4 e.framesHeard.toNat := by
  rw [RosterEntry.bytes, byte1_ite, stationFlags_eq]
  rfl

theorem GroupItem.bytes_of_down {i : GroupItem} {supervisor : Nat} (h : i.entry.state = .down supervisor) :
    i.bytes = byte2 i.entry.group ++ [1, BitVec.ofNat 8 supervisor] ++ byte4 0 ++ byte2 i.heldCount := by
  rw [GroupItem.bytes, h]
  rfl

theorem GroupItem.bytes_of_returning {i : GroupItem} {deadline : Nat} (h : i.entry.state = .returning deadline) :
    i.bytes = byte2 i.entry.group ++ [2, 0] ++ byte4 deadline ++ byte2 i.heldCount := by
  rw [GroupItem.bytes, h]
  rfl

theorem counters_length (l : List (BitVec 32)) : (l.flatMap (fun c => byte4 c.toNat)).length = 4 * l.length := by
  induction l with
  | nil => rfl
  | cons c l ih =>
    rw [List.flatMap_cons, List.length_append, ih, List.length_cons]
    exact Nat.add_comm _ _

theorem StatusBody.bytes_length {b : StatusBody} (h : b.counters.length = 16) : b.bytes.length = 77 := by
  rw [StatusBody.bytes, List.length_append, counters_length, h]
  rfl

/-- Settles O49: the head report's sending and departure, the dump's idle end, and the layout of every report. -/
theorem reportsAreSentAndDelivered : Obligations.ReportsAreSentAndDelivered := by
  refine ⟨fun r rest s => ⟨fun c head next => exec_yields rfl (readyAsserted_of_next head next),
    fun afterEnd resyncs head sent hafter hresyncs => exec_yields rfl ?_,
    fun src cur e opened past => ⟨fun room => exec_yields rfl ?_, fun full => exec_yields rfl ?_⟩,
    fun empty => ⟨exec_yields rfl (readyAsserted_of_nil empty), exec_yields rfl (reportDelivered_of_nil empty)⟩,
    fun head => ⟨fun sent => exec_yields rfl (readyAsserted_of_sent head sent),
      fun unsent => exec_yields rfl (reportDelivered_of_unsent head unsent)⟩,
    fun before => exec_yields rfl (dumpIdleTimeout_of_before before), r.isPage_iff, ?_⟩,
    fun two four byte item station group framed hbyte htwo hfour hitem hstation hgroup hframed => ?_⟩
  · refine (reportDelivered_of_sent head sent).trans ?_
    rw [DispatcherPort.departed_eq { s.port with reports := rest, sent := 0 } s.now r hafter hresyncs]
    cases s.port.dump <;> rfl
  · refine (dumpIdleTimeout_of_past opened past).trans ((if_pos room).trans ?_)
    have active : s.port.dump ≠ .none := by simp [opened]
    rw [DispatcherPort.endDump_of_active active]
  · exact (dumpIdleTimeout_of_past opened past).trans (if_neg (Nat.not_lt.2 full))
  · cases h : s.port.service <;> simp only [DispatcherPort.keptPlaces, h]
  · subst hbyte
    obtain rfl : two = byte2 := htwo
    obtain rfl : four = byte4 := hfour.trans (funext fun n => (byte4_eq n).symm)
    obtain rfl : item = RecordItem.bytes := hitem.trans (funext fun i => by
      rw [RecordItem.bytes, conditionByte_eq, itemFlags_eq]
      rfl)
    obtain rfl : station = RosterEntry.bytes := hstation.trans (funext fun e => e.bytes_eq.symm)
    obtain rfl : group = GroupItem.bytes := hgroup.trans (funext fun i => by
      cases h : i.entry.state with
      | down supervisor => exact (i.bytes_of_down h).symm
      | returning deadline => exact (i.bytes_of_returning h).symm)
    have framed_of {r : Report} {type : Byte} {body : List Byte} (htype : r.typeCode = type) (hbody : r.body = body) :
        framed r type body := by
      rw [hframed]
      exact Report.framed htype hbody
    refine ⟨fun i => rfl, fun e => rfl, fun i => rfl, fun b => ?_, framed_of rfl rfl, fun l => framed_of rfl rfl,
      fun l => framed_of rfl rfl, fun l => framed_of rfl rfl, fun reason => framed_of rfl rfl,
      fun o p out => framed_of rfl ?_, framed_of rfl rfl, fun type reason o p => framed_of rfl rfl,
      fun i => framed_of rfl rfl, fun i cause => framed_of rfl rfl, fun g st sup held => framed_of rfl rfl,
      fun n heard records => framed_of rfl rfl, fun n records => framed_of rfl rfl, fun o p seen => framed_of rfl rfl,
      framed_of rfl rfl, rfl, rfl, rfl, rfl, rfl, rfl, rfl, rfl⟩
    · refine ⟨b.bytes, framed_of rfl rfl, StatusBody.bytes_length, ?_⟩
      rw [StatusBody.bytes, statusFlags_eq]
      rfl
    · rw [Report.body, byte1_ite]
      rfl

end Sys2Proof.Machine

/-!
PROOFS. The GROUP notices and the hold signals between two group tables (R30, R46, R52), and the Table Engine's part of a
REJOIN.
-/
namespace Sys2Proof.Machine

/-! ### GROUP notices (R46) -/

section GroupNotices

variable {start final : List GroupEntry} {cft : List Record} {g : Nat}

/-- A GROUP notice of a group's state, with its held count. -/
def groupNoticeOf (g : Nat) (state : GroupNoticeState) (supervisor : Option Nat) (cft : List Record) : Notice :=
  { report := .group g state supervisor (heldCount cft g), before := none }

theorem groupNotice_of_gone {e : GroupEntry} (was : findEntry start g = some e) (gone : findEntry final g = none) :
    groupNotice start final cft g = [groupNoticeOf g .up none cft] := by
  simp only [groupNotice, was, gone]
  rfl

/-- The notice of an entry that stands at the end (R46). -/
theorem groupNotice_of_entry {e : GroupEntry} (now : findEntry final g = some e) : groupNotice start final cft g =
    if ∃ a, findEntry start g = some a ∧ a.state.notice = e.state.notice ∧ a.state.supervisor = e.state.supervisor then []
    else [groupNoticeOf g e.state.notice e.state.supervisor cft] := by
  cases was : findEntry start g with
  | none => simp only [groupNotice, was, now, reduceCtorEq, false_and, exists_false, if_false, groupNoticeOf]
  | some a => simp only [groupNotice, was, now, Option.some.injEq, exists_eq_left', groupNoticeOf]

theorem groupNotice_of_down {m : Nat} (now : findEntry final g = some ⟨g, .down m⟩) : groupNotice start final cft g =
    if findEntry start g = some ⟨g, .down m⟩ then [] else [groupNoticeOf g .down (some m) cft] := by
  rw [groupNotice_of_entry now]
  refine if_congr ⟨?_, fun same => ⟨_, same, rfl, rfl⟩⟩ rfl rfl
  rintro ⟨a, was, state, supervisor⟩
  obtain ⟨group, -⟩ := findEntry_some was
  obtain ⟨h, m' | d⟩ := a
  · cases supervisor
    rw [was, ← group]
  · cases state

theorem groupNotice_of_still_returning {d d' : Nat} (was : findEntry start g = some ⟨g, .returning d'⟩)
    (now : findEntry final g = some ⟨g, .returning d⟩) : groupNotice start final cft g = [] := by
  rw [groupNotice_of_entry now]
  exact if_pos ⟨_, was, rfl, rfl⟩

theorem groupNotice_of_returning {d : Nat} (was : ∀ d', findEntry start g ≠ some ⟨g, .returning d'⟩)
    (now : findEntry final g = some ⟨g, .returning d⟩) :
    groupNotice start final cft g = [groupNoticeOf g .returning none cft] := by
  rw [groupNotice_of_entry now]
  refine if_neg ?_
  rintro ⟨⟨h, m | d'⟩, old, state, -⟩
  · cases state
  · obtain ⟨group, -⟩ := findEntry_some old
    cases group
    exact was d' old

/-- The groups that the GROUP notices look at, ascending. -/
def noticedGroups (start final : List GroupEntry) : List Nat :=
  mergeNat (start.map (·.group)) (mergeNat (final.map (·.group)) [])

theorem groupNotices_eq (start final : List GroupEntry) (cft : List Record) :
    groupNotices start final cft = (noticedGroups start final).flatMap (groupNotice start final cft) := rfl

theorem noticedGroups_ascending (start final : List GroupEntry) : (noticedGroups start final).Pairwise (· < ·) :=
  mergeNat_ascending _ _ (mergeNat_ascending _ _ .nil)

theorem mem_groups_iff (groups : List GroupEntry) (g : Nat) :
    g ∈ groups.map (·.group) ↔ findEntry groups g ≠ none := by
  rw [ne_eq, findEntry_eq_none]
  simp

theorem mem_noticedGroups (start final : List GroupEntry) (g : Nat) :
    g ∈ noticedGroups start final ↔ findEntry start g ≠ none ∨ findEntry final g ≠ none := by
  simp only [noticedGroups, mem_mergeNat, mem_groups_iff, List.not_mem_nil, or_false]

end GroupNotices

/-! ### Hold signals (R52) -/

/-- The group of a hold signal. -/
def HoldSignal.group : HoldSignal → Nat
  | .begun g => g
  | .ended g => g

/-- The signals of one group, hold-ended first. -/
def groupSignals (created ended : List Nat) (g : Nat) : List HoldSignal :=
  (if ended.contains g then [.ended g] else []) ++ (if created.contains g then [.begun g] else [])

section Signals

variable {created ended : List Nat} {g : Nat} {x : HoldSignal}

theorem mem_groupSignals : x ∈ groupSignals created ended g ↔
    g ∈ ended ∧ x = .ended g ∨ g ∈ created ∧ x = .begun g := by
  simp [groupSignals]

theorem mem_holdSignals : x ∈ holdSignals created ended ↔
    ∃ g, (g ∈ ended ∧ x = .ended g ∨ g ∈ created ∧ x = .begun g) := by
  change x ∈ (mergeNat created (mergeNat ended [])).flatMap (groupSignals created ended) ↔ _
  simp only [List.mem_flatMap, mem_groupSignals, mem_mergeNat, List.not_mem_nil, or_false]
  constructor
  · rintro ⟨g, -, h⟩
    exact ⟨g, h⟩
  · rintro ⟨g, h⟩
    exact ⟨g, h.elim (fun h => .inr h.1) (fun h => .inl h.1), h⟩

theorem begun_mem_holdSignals : .begun g ∈ holdSignals created ended ↔ g ∈ created := by
  simp [mem_holdSignals]

theorem ended_mem_holdSignals : .ended g ∈ holdSignals created ended ↔ g ∈ ended := by
  simp [mem_holdSignals]

/-- The order of hold signals: by group, and within a group hold-ended first. -/
abbrev HoldSignal.ahead (x y : HoldSignal) : Prop :=
  x.group < y.group ∨ (x = .ended x.group ∧ y = .begun x.group)

theorem holdSignals_ordered (created ended : List Nat) : (holdSignals created ended).Pairwise HoldSignal.ahead := by
  have order : (mergeNat created (mergeNat ended [])).Pairwise (· < ·) :=
    mergeNat_ascending _ _ (mergeNat_ascending _ _ .nil)
  have groups {g : Nat} {x : HoldSignal} (hx : x ∈ groupSignals created ended g) : x.group = g := by
    obtain ⟨-, rfl⟩ | ⟨-, rfl⟩ := mem_groupSignals.1 hx <;> rfl
  change ((mergeNat created (mergeNat ended [])).flatMap (groupSignals created ended)).Pairwise _
  rw [List.pairwise_flatMap]
  refine ⟨fun g _ => ?_, order.imp fun lt x hx y hy => .inl (by rwa [groups hx, groups hy])⟩
  unfold groupSignals
  cases ended.contains g <;> cases created.contains g <;>
    simp [HoldSignal.ahead, HoldSignal.group]

/-- Where no group both ends and begins, the signals are in strict group order. -/
theorem holdSignals_ascending (apart : ∀ g ∈ created, g ∉ ended) :
    (holdSignals created ended).Pairwise (fun x y => x.group < y.group) := by
  refine (holdSignals_ordered created ended).imp_of_mem fun hx hy ahead => ahead.resolve_right ?_
  rintro ⟨ends, begins⟩
  rw [ends, ended_mem_holdSignals] at hx
  rw [begins, begun_mem_holdSignals] at hy
  exact apart _ hy hx

end Signals

/-! ### The Table Engine's part of a REJOIN (R31, R54) -/

section RejoinPart

variable {s : State} {g : Nat}

/-- The hold signals of the entries that the recompute creates and removes (R52, R54). -/
def State.rejoinSignals (s : State) : List HoldSignal :=
  holdSignals
    ((s.rejoinedTable.groups.map (·.group)).filter (fun g => !(s.table.groups.map (·.group)).contains g))
    ((s.table.groups.map (·.group)).filter (fun g => !(s.rejoinedTable.groups.map (·.group)).contains g))

theorem tableEngineRejoinPart_of_begun {d : Bool} (begun : s.loader.rejoin = some ⟨d, false⟩) :
    tableEngineRejoinPart s = { s with
      loader := { s.loader with rejoin := some ⟨d, true⟩ }
      table := s.rejoinedTable
      roster := .start
      rx := { s.rx with queue := [] }
      origin := { s.origin with stationIn := s.origin.stationIn ++ s.table.rejoinClears
                                holdIn := s.origin.holdIn ++ s.rejoinSignals }
      port := { s.port with dump := s.port.dump.discardBuild }.gateAll
        (groupNotices s.table.groups s.rejoinedTable.groups s.rejoinedTable.cft) } := by
  simp only [tableEngineRejoinPart, begun]
  rfl

theorem tableEngineRejoinPart_of_not (h : ∀ d, s.loader.rejoin ≠ some ⟨d, false⟩) : tableEngineRejoinPart s = s := by
  obtain same | ⟨d, -, begun, -⟩ := tableEngineRejoinPart_cases s
  · exact same
  · exact absurd begun (h d)

theorem begun_mem_rejoinSignals : .begun g ∈ s.rejoinSignals ↔
    findEntry s.table.groups g = none ∧ findEntry s.rejoinedTable.groups g ≠ none := by
  rw [State.rejoinSignals, begun_mem_holdSignals, List.mem_filter, mem_groups_iff, Bool.not_eq_true',
    ← Bool.not_eq_true, List.contains_iff_mem, mem_groups_iff, not_not, and_comm]

theorem ended_mem_rejoinSignals : .ended g ∈ s.rejoinSignals ↔
    findEntry s.table.groups g ≠ none ∧ findEntry s.rejoinedTable.groups g = none := by
  rw [State.rejoinSignals, ended_mem_holdSignals, List.mem_filter, mem_groups_iff, Bool.not_eq_true',
    ← Bool.not_eq_true, List.contains_iff_mem, mem_groups_iff, not_not]

theorem rejoinSignals_ascending (s : State) : s.rejoinSignals.Pairwise (fun x y => x.group < y.group) := by
  refine holdSignals_ascending fun g hc he => ?_
  obtain ⟨-, fresh⟩ := List.mem_filter.1 hc
  obtain ⟨was, -⟩ := List.mem_filter.1 he
  rw [Bool.not_eq_true', ← Bool.not_eq_true, List.contains_iff_mem] at fresh
  exact fresh was

theorem findEntry_rejoinedTable (s : State) (g : Nat) : findEntry s.rejoinedTable.groups g =
    rejoinEntry s.own (s.nowSec + s.returnGrace) (ownRecords s.own s.table.cft) s.table.groups g :=
  findEntry_rejoinGroups ..

/-- The waiting expiries that a REJOIN keeps: those whose deadline still stands (R14). -/
def State.rejoinKeeps (s : State) : TimerClaim → Bool := TimerClaim.stands s.window .start s.rejoinedTable

theorem rejoinedTable_timers (s : State) : s.rejoinedTable.timers = s.table.timers.filter s.rejoinKeeps := by
  refine List.filter_congr fun c _ => ?_
  cases c <;> rfl

theorem TimerClaim.stands_grace (W : Nat) (u : RosterUnit) (te : TableEngine) (d g : Nat) :
    TimerClaim.stands W u te (.grace d g) = true ↔ findEntry te.groups g = some ⟨g, .returning d⟩ := by
  cases he : findEntry te.groups g with
  | none => simp [TimerClaim.stands, he]
  | some e =>
    obtain ⟨rfl, -⟩ := findEntry_some he
    obtain ⟨h, st⟩ := e
    simp [TimerClaim.stands, he]

/-- No expiry of a peer record outlasts a REJOIN. -/
theorem rejoinKeeps_linger {e : Nat} {k : Key} (peer : k.origin ≠ s.own) : s.rejoinKeeps (.linger e k) = false := by
  have absent : findRecord s.rejoinedTable.cft k = none := by
    refine List.find?_eq_none.2 fun r hr => ?_
    obtain ⟨-, origin⟩ := mem_ownRecords.1 hr
    rw [decide_eq_true_iff]
    rintro rfl
    exact peer origin
  simp only [State.rejoinKeeps, TimerClaim.stands, absent]

end RejoinPart

/-- Settles O47: the recompute by what a lookup finds, its notices and signals, and the expiries that still stand. -/
theorem rejoinRecomputesTheTables : Obligations.RejoinRecomputesTheTables := by
  refine ⟨fun d s group begun hgroup => ?_, fun s none => exec_yields rfl (tableEngineRejoinPart_of_not none)⟩
  obtain rfl : group = HoldSignal.group := hgroup.trans (funext fun x => by cases x <;> rfl)
  have entry := findEntry_rejoinedTable s
  refine ⟨_, groupNotices s.table.groups s.rejoinedTable.groups s.rejoinedTable.cft,
    exec_yields rfl (tableEngineRejoinPart_of_begun begun), rfl, rfl, ?_, ?_, ?_, ?_, ?_, fun g => ?_⟩
  · simp only [TableEngine.rejoinClears, List.append_assoc]
    rfl
  · cases s.port.dump <;> rfl
  · refine ⟨noticedGroups s.table.groups s.rejoinedTable.groups,
      groupNotice s.table.groups s.rejoinedTable.groups s.rejoinedTable.cft, rfl, noticedGroups_ascending ..,
      mem_noticedGroups _ _, fun g e was gone => groupNotice_of_gone was gone, fun g m now => groupNotice_of_down now,
      fun g e now => ⟨fun ⟨e', was⟩ => groupNotice_of_still_returning was now, fun was => groupNotice_of_returning was now⟩⟩
  · exact ⟨s.rejoinSignals, rfl, fun g => begun_mem_rejoinSignals, fun g => ended_mem_rejoinSignals,
      rejoinSignals_ascending s⟩
  · exact ⟨s.rejoinKeeps, rejoinedTable_timers s, fun e g => TimerClaim.stands_grace .., fun e k => rejoinKeeps_linger⟩
  · refine ⟨fun opened => ?_, fun all ⟨r, hr, kind, group⟩ => ?_, fun none => ?_⟩
    · exact (entry g).trans (rejoinEntry_opened ((supplyStands_iff ..).2 opened))
    · have unopened : supplyStands (ownRecords s.own s.table.cft) g .opened = false := by
        rw [← Bool.not_eq_true, supplyStands_iff]
        rintro ⟨x, hx, kind, group, opened⟩
        rw [all x hx kind group] at opened
        cases opened
      have cleared : supplyStands (ownRecords s.own s.table.cft) g .cleared = true :=
        (supplyStands_iff ..).2 ⟨r, hr, kind, group, all r hr kind group⟩
      have now := (entry g).trans (rejoinEntry_cleared unopened cleared)
      refine ⟨fun sup was => ?_, fun e was => ?_, fun was => ?_⟩
      all_goals
        rw [was] at now
        exact now
    · have unsupplied (st : OriginState) : supplyStands (ownRecords s.own s.table.cft) g st = false := by
        rw [← Bool.not_eq_true, supplyStands_iff]
        rintro ⟨x, hx, kind, group, -⟩
        exact none x hx kind group
      exact (entry g).trans (rejoinEntry_gone (unsupplied _) (unsupplied _))

end Sys2Proof.Machine

/-!
PROOFS. The claims that close with no work done: an ACKNOWLEDGE, a frame that fails the content check, and a page build.
-/
namespace Sys2Proof.Machine

/-! ### The close of a claim with no work done (R13) -/

section NoWork

variable (u : State) (extra : List Notice)

theorem State.closeClaim_begin : u.closeClaim (Work.begin u.table) extra = { u with
    table := (u.closeClaim (Work.begin u.table) extra).table
    origin := { u.origin with stationIn := (u.closeClaim (Work.begin u.table) extra).origin.stationIn }
    port := u.port.gateAll extra } := by
  have signals := Work.close_begin_signals u
  have notices := Work.close_begin_notices u
  rw [State.closeClaim, State.handOn, signals, notices, List.append_nil, List.nil_append]

theorem State.closeClaim_begin_cft : (u.closeClaim (Work.begin u.table) extra).table.cft = u.table.cft :=
  Work.close_cft (Work.begin u.table) u

theorem State.closeClaim_begin_groups : (u.closeClaim (Work.begin u.table) extra).table.groups = u.table.groups :=
  Work.close_groups (Work.begin u.table) u rfl rfl

end NoWork

/-! ### Frames without work (R116, R126) -/

section Frames

variable {s : State} {n : Nat} {b : List Byte}

/-- The state of a claim that discards its frame as bad (R116, R151). -/
def State.badFrame (s : State) : State :=
  { s with rx := { s.rx with queue := s.rx.queue.drop 1, badFrames := s.rx.badFrames + 1 } }

theorem State.badContent_eq (s : State) : s.takeFrame.badContent = s.badFrame.closeClaim (Work.begin s.table) [] := rfl

theorem recordFrame_of_bad (claim : s.nextClaim = some (.frame ⟨n, .record, b⟩)) (bad : readRecord b = none) :
    recordFrame s = s.badFrame.closeClaim (Work.begin s.table) [] := by
  simp only [recordFrame, claim, bad, State.badContent_eq]

theorem rollFrame_of_bad (claim : s.nextClaim = some (.frame ⟨n, .roll, b⟩)) (bad : readRoll b = none) :
    rollFrame s = s.badFrame.closeClaim (Work.begin s.table) [] := by
  simp only [rollFrame, claim, bad, State.badContent_eq]

theorem acknowledgeFrame_of_bad (claim : s.nextClaim = some (.frame ⟨n, .acknowledge, b⟩))
    (bad : readAcknowledge b = none) : acknowledgeFrame s = s.badFrame.closeClaim (Work.begin s.table) [] := by
  simp only [acknowledgeFrame, claim, bad, State.badContent_eq]

theorem acknowledgeFrame_of_read {a : AckBody} (claim : s.nextClaim = some (.frame ⟨n, .acknowledge, b⟩))
    (read : readAcknowledge b = some a) : acknowledgeFrame s = State.closeClaim { s with
      rx := { s.rx with queue := s.rx.queue.drop 1 }
      origin := { s.origin with
        acksIn := if a.origin = s.own then s.origin.acksIn ++ [⟨n, a.tag, a.point, a.seen⟩]
          else s.origin.acksIn } } (Work.begin s.table) [] := by
  simp only [acknowledgeFrame, claim, read]
  by_cases here : a.origin = s.own
  · rw [if_pos here, if_pos here]
    rfl
  · rw [if_neg here, if_neg here]
    rfl

end Frames

/-- Settles O32: each of these claims closes the work of a claim just begun. -/
theorem acknowledgesAndBadContentAreTaken : Obligations.AcknowledgesAndBadContentAreTaken := by
  intro n b s
  refine ⟨fun a u claim read hu => ?_, fun k i u frames claim hu => ?_⟩
  · subst hu
    exact ⟨_, exec_yields rfl (acknowledgeFrame_of_read claim read), rfl, State.closeClaim_begin_cft ..,
      State.closeClaim_begin_groups .., State.closeClaim_begin ..⟩
  · subst hu
    have taken : exec i s = .next (s.badFrame.closeClaim (Work.begin s.table) []) := by
      obtain ⟨rfl, rfl, bad⟩ | ⟨rfl, rfl, bad⟩ | ⟨rfl, rfl, bad⟩ := frames
      · exact exec_yields rfl (recordFrame_of_bad claim bad)
      · exact exec_yields rfl (rollFrame_of_bad claim bad)
      · exact exec_yields rfl (acknowledgeFrame_of_bad claim bad)
    exact ⟨_, taken, rfl, State.closeClaim_begin_cft .., State.closeClaim_begin_groups .., State.closeClaim_begin ..⟩

/-! ### A page build (R176, R177) -/

/-- The port after a page: with DUMP-END(COMPLETE) where it is not full. -/
theorem pageBuild_of_claim {s : State} {src : DumpSource} {cur : Cursor} (claim : s.nextClaim = some (.page src cur)) :
    pageBuild s = { s.closeClaim (Work.begin s.table) [] with
      port := { s.port with
        reports := s.port.reports ++ .page (s.pageItems src cur) ::
          (if (s.pageItems src cur).count < src.pageSize then [.dumpEnd .complete] else [])
        dump := if (s.pageItems src cur).count < src.pageSize then .none
          else .opened src ((s.pageItems src cur).cursor cur) none
        service := .free } } := by
  have port : (s.closeClaim (Work.begin s.table) []).port = s.port := by
    rw [State.closeClaim_begin]
    rfl
  simp only [pageBuild, claim, port]
  by_cases short : (s.pageItems src cur).count < src.pageSize
  · simp only [if_pos short, DispatcherPort.post, List.append_assoc, List.cons_append, List.nil_append]
  · simp only [if_neg short, DispatcherPort.post]

theorem PageItems.count_le (s : State) (src : DumpSource) (cur : Cursor) : (s.pageItems src cur).count ≤ src.pageSize := by
  cases src with
  | table => exact List.length_take_le ..
  | roster => exact List.length_take_le ..
  | groups => exact (List.length_map _).trans_le (List.length_take_le ..)

theorem Cursor.beforeKey_eq (cur : Cursor) (k : Key) : cur.beforeKey k = match cur with
    | .record j => decide (j.origin < k.origin ∨ (j.origin = k.origin ∧ j.point < k.point))
    | _ => true := by
  cases cur with
  | record j => exact Bool.eq_iff_iff.2 ((Key.lt_iff j k).trans decide_eq_true_iff.symm)
  | _ => rfl

/-- Settles O33: the page is what its source shows after the cursor, and its length decides what follows. -/
theorem pageBuildPostsThePage : Obligations.PageBuildPostsThePage := by
  intro src cur next items full s afterKey afterStation afterGroup hkey hstation hgroup claim table roster groups hnext
    hfull
  obtain rfl : afterKey = cur.beforeKey := hkey.trans (funext fun k => (cur.beforeKey_eq k).symm)
  obtain rfl : afterStation = cur.beforeStation := hstation.trans (funext fun n => by cases cur <;> rfl)
  obtain rfl : afterGroup = cur.beforeGroup := hgroup.trans (funext fun g => by cases cur <;> rfl)
  have page : items = s.pageItems src cur := by
    cases src with
    | table => exact table rfl
    | roster => exact roster rfl
    | groups => exact groups rfl
  have cursor : next = items.cursor cur := by rw [hnext]; cases items <;> rfl
  have size : full = decide (items.count = src.pageSize) := by rw [hfull]; cases items <;> cases src <;> rfl
  have most := PageItems.count_le s src cur
  rw [← page] at most
  refine ⟨_, _, exec_yields rfl (pageBuild_of_claim claim), rfl, State.closeClaim_begin .., State.closeClaim_begin_cft ..,
    State.closeClaim_begin_groups .., ?_⟩
  rw [← page, ← cursor]
  by_cases fits : items.count = src.pageSize
  · rw [if_neg (Nat.not_lt.2 fits.ge), if_neg (Nat.not_lt.2 fits.ge), size, decide_eq_true fits]
    rfl
  · have short := lt_of_le_of_ne most fits
    rw [if_pos short, if_pos short, size, decide_eq_false fits]
    rfl

end Sys2Proof.Machine

/-!
PROOFS. What the close of a claim hands on (R13): the checks with their reports, the expiries that stand, and the record
notices in key order.
-/
namespace Sys2Proof.Machine

/-! ### Lists of keys (R2, R30) -/

theorem mem_insertKey (k j : Key) (l : List Key) : j ∈ insertKey k l ↔ j = k ∨ j ∈ l := by
  induction l with
  | nil => simp [insertKey]
  | cons m l ih =>
    unfold insertKey
    split
    next => simp
    next =>
      split
      next same => simp [same]
      next => simp [ih, or_left_comm]

/-- A list of keys in key order, without repeats. -/
abbrev KeysAscend (l : List Key) : Prop := l.Pairwise (fun a b => a.lt b = true)

theorem KeysAscend.insert {l : List Key} (h : KeysAscend l) (k : Key) : KeysAscend (insertKey k l) := by
  induction l with
  | nil => exact List.pairwise_singleton ..
  | cons m l ih =>
    obtain ⟨first, rest⟩ := List.pairwise_cons.1 h
    unfold insertKey
    split
    next lt =>
      refine List.pairwise_cons.2 ⟨fun j hj => ?_, h⟩
      obtain rfl | hj := List.mem_cons.1 hj
      · exact lt
      · exact Key.lt_trans lt (first j hj)
    next notLt =>
      split
      next => exact h
      next other =>
        refine List.pairwise_cons.2 ⟨fun j hj => ?_, ih rest⟩
        obtain rfl | hj := (mem_insertKey ..).1 hj
        · exact Key.lt_of_not_lt notLt other
        · exact first j hj

theorem mem_foldr_insertKey (l m : List Key) (j : Key) : j ∈ l.foldr insertKey m ↔ j ∈ l ∨ j ∈ m := by
  induction l with
  | nil => simp
  | cons k l ih => rw [List.foldr_cons, mem_insertKey, ih, List.mem_cons, or_assoc]

theorem KeysAscend.insertAll {m : List Key} (h : KeysAscend m) (l : List Key) : KeysAscend (l.foldr insertKey m) := by
  induction l with
  | nil => exact h
  | cons k l ih => exact ih.insert k

/-! ### The three checks of a close (R24, R50, R51) -/

section Checks

variable (te : TableEngine)

/-- GROUP-TABLE-FULL is cleared at the close (R50). -/
def TableEngine.groupFullClears : Bool :=
  te.groupTableFull && decide (te.groups.length ≤ 120 ∧ lackingGroups te = [])

theorem TableEngine.groupFullCheck_eq : te.groupFullCheck =
    ({ te with groupTableFull := te.groupTableFull && !te.groupFullClears },
      if te.groupFullClears then [⟨.tableEngine, .groupTableFull, false⟩] else []) := by
  have clears : (te.groupTableFull && decide (te.groups.length ≤ Config.groupFullClear) && (lackingGroups te).isEmpty) =
      te.groupFullClears := by
    rw [TableEngine.groupFullClears, Bool.decide_and, ← Bool.and_assoc]
    cases lackingGroups te with
    | nil =>
      simp only [List.isEmpty_nil, decide_true]
      rfl
    | cons g l => simp
  unfold TableEngine.groupFullCheck
  rw [clears]
  cases h : te.groupFullClears with
  | true => simp [tableReport]
  | false => simp

theorem TableEngine.clashCheck_eq (own : Nat) (l : List Nat) : te.clashCheck own l =
    ({ te with groupClash := clashing own l te.cft },
      if clashing own l te.cft != te.groupClash then [⟨.tableEngine, .groupClash, clashing own l te.cft⟩] else []) := by
  obtain ⟨cft, groups, timers, refused, evictions, old, moot, tableFull, groupTableFull, clash⟩ := te
  unfold TableEngine.clashCheck
  dsimp only
  generalize clashing own l cft = found
  cases found <;> cases clash <;> rfl

theorem TableEngine.tableFullCheck_eq (own : Nat) : te.tableFullCheck own =
    ({ te with tableFull := te.tableFull && decide (927 < peerCount own te.cft) },
      if te.tableFull && decide (peerCount own te.cft ≤ 927) then [⟨.tableEngine, .tableFull, false⟩] else []) := by
  obtain ⟨cft, groups, timers, refused, evictions, old, moot, tableFull, groupTableFull, clash⟩ := te
  unfold TableEngine.tableFullCheck
  dsimp only
  by_cases few : peerCount own cft ≤ 927
  · cases tableFull <;> simp [few, Nat.not_lt.2 few, tableReport]
  · cases tableFull <;> simp [few, Nat.lt_of_not_le few]

theorem clashing_iff (own : Nat) (l : List Nat) (cft : List Record) : clashing own l cft = true ↔
    ∃ r ∈ cft, r.key.origin ≠ own ∧ r.kind = .supply ∧ r.group ∈ l := by
  simp [clashing, and_assoc]

end Checks

/-! ### The tables after a close -/

section Close

variable (w : Work) (s : State)

/-- The clash check is made where the claim changed a record (R51). -/
def Work.clashAfter : Bool := if w.dirty then clashing s.own s.supervised w.te.cft else w.te.groupClash

theorem groupEffects_rest (l : List Nat) (c : GroupWork) : (l.foldl (groupEffect s) c).te = { c.te with
    groups := (l.foldl (groupEffect s) c).te.groups
    groupTableFull := (l.foldl (groupEffect s) c).te.groupTableFull } ∧
    (l.foldl (groupEffect s) c).ended = c.ended := by
  induction l generalizing c with
  | nil => exact ⟨rfl, rfl⟩
  | cons g l ih =>
    obtain ⟨te, ended⟩ := groupEffect_rest s c g
    obtain ⟨te', ended'⟩ := ih (groupEffect s c g)
    exact ⟨te'.trans (by rw [te]; rfl), ended'.trans ended⟩

theorem Work.rescanned_te : (w.rescanned s).te = { w.te with
    groups := (w.rescanned s).te.groups, groupTableFull := (w.levelled s).te.groupTableFull } := by
  have rescan := (w.levelled s).rescan_rest.1
  have effects := (groupEffects_rest s w.touched w.opened).1
  change (w.rescanned s).te = _ at rescan
  rw [rescan]
  change (w.levelled s).te = _ at effects
  rw [effects]
  rfl

theorem Work.rescanned_ended : (w.rescanned s).ended = w.ended :=
  (w.levelled s).rescan_rest.2.1.trans (groupEffects_rest s w.touched w.opened).2

theorem Work.rescanned_raised : (w.rescanned s).raised = (w.levelled s).raised :=
  (w.levelled s).rescan_rest.2.2

/-- The tables before the waiting expiries are looked at. -/
def Work.checkedTable : TableEngine := { w.te with
  groups := (w.rescanned s).te.groups
  tableFull := w.te.tableFull && decide (927 < peerCount s.own w.te.cft)
  groupTableFull := (w.levelled s).te.groupTableFull && !(w.rescanned s).te.groupFullClears
  groupClash := w.clashAfter s }

/-- The close of a claim, its steps written out. -/
theorem Work.close_eq : w.close s = {
    te := { w.checkedTable s with
      timers := w.te.timers.filter (TimerClaim.stands s.window s.roster (w.checkedTable s)) }
    reports :=
      (if w.refused then [⟨.tableEngine, .tableFull, true⟩] else []) ++
      (if w.te.tableFull && decide (peerCount s.own w.te.cft ≤ 927) then [⟨.tableEngine, .tableFull, false⟩] else []) ++
      (if w.dirty && (clashing s.own s.supervised w.te.cft != w.te.groupClash)
        then [⟨.tableEngine, .groupClash, clashing s.own s.supervised w.te.cft⟩] else []) ++
      (if (w.levelled s).raised then [⟨.tableEngine, .groupTableFull, true⟩] else []) ++
      (if (w.rescanned s).te.groupFullClears then [⟨.tableEngine, .groupTableFull, false⟩] else [])
    signals := holdSignals (w.rescanned s).created w.ended
    notices := recordNotices s.table w (w.checkedTable s) ++
      groupNotices s.table.groups (w.rescanned s).te.groups w.te.cft } := by
  have te := w.rescanned_te s
  have raised := w.rescanned_raised s
  have ended := w.rescanned_ended s
  have unfolded : w.close s =
      let c1 := w.rescanned s
      let (te2, full) := c1.te.groupFullCheck
      let (te3, clash) := if w.dirty then te2.clashCheck s.own s.supervised else (te2, [])
      let (te4, table) := te3.tableFullCheck s.own
      { te := { te4 with timers := te4.timers.filter (TimerClaim.stands s.window s.roster te4) }
        reports := (if w.refused then [tableReport .tableFull true] else []) ++ table ++ clash ++
          (if c1.raised then [tableReport .groupTableFull true] else []) ++ full
        signals := holdSignals c1.created c1.ended
        notices := recordNotices s.table w te4 ++ groupNotices s.table.groups te4.groups te4.cft } := rfl
  rw [unfolded]
  unfold Work.checkedTable Work.clashAfter
  generalize w.rescanned s = c1 at *
  obtain ⟨te1, created, ended1, raised1⟩ := c1
  dsimp only at te raised ended ⊢
  subst raised ended
  generalize te1.groups = groups at te
  subst te
  simp only [TableEngine.groupFullCheck_eq, TableEngine.clashCheck_eq]
  cases w.dirty with
  | true =>
    simp only [if_true, TableEngine.tableFullCheck_eq, Bool.true_and]
    rfl
  | false =>
    simp only [Bool.false_eq_true, if_false, TableEngine.tableFullCheck_eq, Bool.false_and]
    rfl

theorem Work.close_te : (w.close s).te = { w.te with
    groups := (w.close s).te.groups, timers := (w.close s).te.timers, tableFull := (w.close s).te.tableFull
    groupTableFull := (w.close s).te.groupTableFull, groupClash := (w.close s).te.groupClash } := by
  rw [Work.close_eq]
  rfl

theorem Work.close_signals : (w.close s).signals = holdSignals (w.rescanned s).created w.ended := by
  rw [Work.close_eq]

theorem Work.close_tableFull : (w.close s).te.tableFull =
    (w.te.tableFull && decide (927 < peerCount s.own w.te.cft)) := by
  rw [Work.close_eq]
  rfl

theorem Work.close_clash : (w.close s).te.groupClash = w.clashAfter s := by
  rw [Work.close_eq]
  rfl

/-- A close looks the records and the entries up in the tables that it leaves. -/
theorem Work.close_notices : (w.close s).notices = recordNotices s.table w (w.close s).te ++
    groupNotices s.table.groups (w.close s).te.groups w.te.cft := by
  rw [Work.close_eq]
  rfl

theorem Work.close_timers : (w.close s).te.timers =
    w.te.timers.filter (TimerClaim.stands s.window s.roster (w.close s).te) := by
  have same : TimerClaim.stands s.window s.roster (w.close s).te =
      TimerClaim.stands s.window s.roster (w.checkedTable s) := by
    rw [Work.close_eq]
    funext c
    cases c <;> rfl
  rw [same, Work.close_eq]

/-- A claim that touches no group and removes no entry hands on no signal. -/
theorem Work.close_signals_of_untouched (touched : w.touched = []) (ended : w.ended = []) :
    (w.close s).signals = [] := by
  have created : (w.rescanned s).created = [] := by
    have still : w.rescanned s = w.opened := by
      rw [Work.rescanned, Work.levelled, touched]
      exact GroupWork.rescan_of_not (by simp [GroupWork.rescans, Work.opened, ended])
    rw [still]
    rfl
  rw [w.close_signals, created, ended]
  rfl

end Close

/-! ### Deadlines of lingers (R14, R25) -/

/-- The window of an origin: the stored one, or this station's (R25). -/
theorem RosterUnit.windowOf_eq (u : RosterUnit) (W n : Nat) : u.windowOf W n = match u.find n with
    | some e => if e.window = 0 then W else e.window
    | none => W := by
  cases known : u.find n with
  | none => exact RosterUnit.windowOf_of_unknown known W
  | some e => exact RosterUnit.windowOf_of_known known W

theorem TimerClaim.stands_linger (W : Nat) (u : RosterUnit) (te : TableEngine) (d : Nat) (k : Key) :
    TimerClaim.stands W u te (.linger d k) = true ↔ ∃ r, findRecord te.cft k = some r ∧ r.state = .cleared ∧
      ∃ at', r.clearedAt = some at' ∧ d = at' + u.windowOf W k.origin := by
  cases held : findRecord te.cft k with
  | none => simp [TimerClaim.stands, held]
  | some r =>
    obtain ⟨rfl, -⟩ := findRecord_some held
    simp only [TimerClaim.stands, held, decide_eq_true_eq, lingerDeadline_eq_some, Option.some.injEq, exists_eq_left']

end Sys2Proof.Machine

/-!
PROOFS. The entries that a close leaves, group by group (R35 to R39, R48 to R50), with the signals and the GROUP-TABLE-FULL
report that they give rise to.
-/
namespace Sys2Proof.Machine

/-! ### Entries that are created (R52) -/

/-- What a step on the group table keeps: every entry stays one, and the groups counted as created are those that got
their entry. -/
structure GroupWork.Grows (c c' : GroupWork) : Prop where
  kept : ∀ g, findEntry c.te.groups g ≠ none → findEntry c'.te.groups g ≠ none
  created : ∀ g, g ∈ c'.created ↔ g ∈ c.created ∨ findEntry c.te.groups g = none ∧ findEntry c'.te.groups g ≠ none

namespace GroupWork.Grows

variable {c c' c'' : GroupWork}

theorem refl (c : GroupWork) : c.Grows c :=
  ⟨fun _ => id, fun g => by simp⟩

theorem trans (h : c.Grows c') (h' : c'.Grows c'') : c.Grows c'' := by
  refine ⟨fun g hg => h'.kept g (h.kept g hg), fun g => ?_⟩
  rw [h'.created, h.created]
  have kept := h.kept g
  have kept' := h'.kept g
  tauto

/-- A step that counts no group as created makes no entry. -/
theorem of_same (created : c'.created = c.created)
    (same : ∀ g, findEntry c.te.groups g = none ↔ findEntry c'.te.groups g = none) : c.Grows c' :=
  ⟨fun g => mt (same g).2, fun g => by rw [created, same g]; simp⟩

theorem create {g : Nat} (absent : findEntry c.te.groups g = none) (m : Nat) : c.Grows (c.create g m) := by
  have found := GroupWork.findEntry_create (m := m) absent
  cases room : c.hasRoom with
  | false =>
    have full : ¬c.te.groups.length < Config.groupPlaces := Nat.not_lt.2 (GroupWork.hasRoom_eq_false.1 room)
    refine of_same (by rw [GroupWork.create, if_neg full]) fun g => ?_
    rw [GroupWork.create, if_neg full]
  | true =>
    have created : (c.create g m).created = insertNat g c.created := by
      rw [GroupWork.create, if_pos (of_decide_eq_true room)]
    refine ⟨fun h hh => ?_, fun h => ?_⟩
    · rw [found, room]
      by_cases same : h = g <;> simp [same, hh]
    · rw [created, mem_insertNat, found, room]
      by_cases same : h = g
      · simp [same, absent]
      · simp [same]

end GroupWork.Grows

theorem groupEffect_grows (s : State) (c : GroupWork) (g : Nat) : c.Grows (groupEffect s c g) := by
  have set (st : GroupState) : c.Grows { c with te := { c.te with groups := setGroup g st c.te.groups } } :=
    .of_same rfl fun h => by
      rw [findEntry_setGroup]
      by_cases same : h = g <;> simp [same]
  unfold groupEffect
  split
  next => exact .refl c
  next m absent _ => exact .create absent m
  next m _ _ => exact set _
  next e _ _ =>
    split
    · exact set _
    · exact .refl c

theorem groupEffects_grow (s : State) (l : List Nat) (c : GroupWork) : c.Grows (l.foldl (groupEffect s) c) := by
  induction l generalizing c with
  | nil => exact .refl c
  | cons g l ih => exact (groupEffect_grows s c g).trans (ih _)

theorem rescanGroup_grows {c : GroupWork} {g : Nat} (absent : findEntry c.te.groups g = none) :
    c.Grows (rescanGroup c g) := by
  unfold rescanGroup
  split
  next m _ =>
    split
    · exact .create absent m
    · exact .refl c
  next => exact .refl c

theorem rescans_grow {l : List Nat} {c : GroupWork} (nodup : l.Nodup)
    (absent : ∀ g ∈ l, findEntry c.te.groups g = none) : c.Grows (l.foldl rescanGroup c) := by
  induction l generalizing c with
  | nil => exact .refl c
  | cons g l ih =>
    exact (rescanGroup_grows (absent g List.mem_cons_self)).trans
      (ih (List.nodup_cons.1 nodup).2 (rescans_absent nodup absent rfl))

theorem GroupWork.rescan_grows (c : GroupWork) : c.Grows c.rescan := by
  cases h : c.rescans with
  | true =>
    rw [GroupWork.rescan_of_rescans h]
    exact rescans_grow (lackingGroups_nodup _) (lackingGroups_absent _)
  | false =>
    rw [GroupWork.rescan_of_not h]
    exact .refl c

/-! ### The flag GROUP-TABLE-FULL (R48) -/

/-- Once the group table is full, no group without an entry gets one. -/
theorem findEntry_groupEffects_of_full (s : State) (l : List Nat) {c : GroupWork}
    (full : Config.groupPlaces ≤ c.te.groups.length) {g : Nat} (absent : findEntry c.te.groups g = none) :
    findEntry (l.foldl (groupEffect s) c).te.groups g = none := by
  induction l generalizing c with
  | nil => exact absent
  | cons x l ih =>
    refine ih (full.trans (groupEffect_length s c x).1) ?_
    rw [findEntry_groupEffect]
    by_cases same : g = x
    · rw [if_pos same, ← same, absent, GroupWork.hasRoom_eq_false.2 full]
      cases lowestSupervisor c.te.cft g <;> rfl
    · rw [if_neg same, absent]

theorem groupEffect_raised (s : State) (c : GroupWork) (g : Nat) : (groupEffect s c g).raised =
    (c.raised || !c.te.groupTableFull && (groupEffect s c g).te.groupTableFull) := by
  unfold groupEffect GroupWork.create
  repeat' split
  all_goals simp

/-- GROUP-TABLE-FULL is raised by the effects that set it. -/
theorem groupEffects_raised (s : State) (l : List Nat) (c : GroupWork) : (l.foldl (groupEffect s) c).raised =
    (c.raised || !c.te.groupTableFull && (l.foldl (groupEffect s) c).te.groupTableFull) := by
  induction l generalizing c with
  | nil => simp
  | cons g l ih =>
    have mono : (groupEffect s c g).te.groupTableFull = true →
        (l.foldl (groupEffect s) (groupEffect s c g)).te.groupTableFull = true := fun set => by
      by_contra clear
      rw [Bool.not_eq_true] at clear
      rw [(groupEffects_full s clear).1] at set
      cases set
    have mono' : c.te.groupTableFull = true → (groupEffect s c g).te.groupTableFull = true := fun set => by
      rw [groupEffect_full, set]
      rfl
    rw [List.foldl_cons, ih, groupEffect_raised]
    revert mono mono'
    cases c.raised <;> cases c.te.groupTableFull <;> cases (groupEffect s c g).te.groupTableFull <;> simp

/-- Some group of a list got no entry although it is supervised. -/
def lacksAmong (l : List Nat) (cft : List Record) (start final : List GroupEntry) : Prop :=
  ∃ g ∈ l, findEntry start g = none ∧ lowestSupervisor cft g ≠ none ∧ findEntry final g = none

/-- The effects set GROUP-TABLE-FULL exactly where they leave a supervised group without its entry (R48). -/
theorem groupEffects_full_iff (s : State) (l : List Nat) (c : GroupWork) :
    (l.foldl (groupEffect s) c).te.groupTableFull = true ↔ c.te.groupTableFull = true ∨
      lacksAmong l c.te.cft c.te.groups (l.foldl (groupEffect s) c).te.groups := by
  induction l generalizing c with
  | nil => simp [lacksAmong]
  | cons x l ih =>
    have grows := groupEffect_grows s c x
    have grows' := groupEffects_grow s l (groupEffect s c x)
    rw [List.foldl_cons, ih, groupEffect_cft, groupEffect_full, Bool.or_eq_true, decide_eq_true_iff, or_assoc]
    refine or_congr_right ⟨?_, ?_⟩
    · rintro (⟨absent, lowest, noRoom⟩ | ⟨g, hg, absent, lowest, lacks⟩)
      · refine ⟨x, List.mem_cons_self, absent, lowest, ?_⟩
        exact findEntry_groupEffects_of_full s (x :: l) (GroupWork.hasRoom_eq_false.1 noRoom) absent
      · have before : findEntry c.te.groups g = none := by
          by_contra had
          exact grows.kept g had absent
        exact ⟨g, List.mem_cons_of_mem _ hg, before, lowest, lacks⟩
    · rintro ⟨g, hg, absent, lowest, lacks⟩
      have still : findEntry (groupEffect s c x).te.groups g = none := by
        by_contra has
        exact grows'.kept g has lacks
      obtain rfl | hg := List.mem_cons.1 hg
      · left
        refine ⟨absent, lowest, ?_⟩
        obtain ⟨m, hm⟩ := Option.ne_none_iff_exists'.1 lowest
        rw [findEntry_groupEffect, if_pos rfl, absent, hm] at still
        cases room : c.hasRoom with
        | false => rfl
        | true =>
          rw [room] at still
          cases still
      · exact .inr ⟨g, hg, still, lowest, lacks⟩

theorem groupEffect_length_le (s : State) (c : GroupWork) (g : Nat) :
    (groupEffect s c g).te.groups.length ≤ c.te.groups.length + 1 := by
  unfold groupEffect GroupWork.create
  repeat' split
  all_goals simp [insertGroup_length, setGroup_length]

/-- While there is a place for each of them, touched groups that are supervised get their entries. -/
theorem findEntry_groupEffects_of_room (s : State) {l : List Nat} {c : GroupWork} {g m : Nat}
    (room : c.te.groups.length + l.length ≤ Config.groupPlaces) (hg : g ∈ l) (absent : findEntry c.te.groups g = none)
    (lowest : lowestSupervisor c.te.cft g = some m) :
    findEntry (l.foldl (groupEffect s) c).te.groups g = some ⟨g, .down m⟩ := by
  induction l generalizing c with
  | nil => cases hg
  | cons x l ih =>
    have hasRoom : c.hasRoom = true := GroupWork.hasRoom_eq_true (by rw [List.length_cons] at room; omega)
    rw [List.foldl_cons]
    by_cases same : g = x
    · subst same
      have made : findEntry (groupEffect s c g).te.groups g = some ⟨g, .down m⟩ := by
        rw [findEntry_groupEffect, if_pos rfl, absent, lowest, hasRoom]
        rfl
      by_cases again : g ∈ l
      · have level := groupEffects_level s (groupEffect s c g) again
        rw [made, groupEffect_cft, lowest] at level
        generalize findEntry (l.foldl (groupEffect s) (groupEffect s c g)).te.groups g = now at level ⊢
        cases level
        rfl
      · rw [findEntry_groupEffects_of_not_mem s _ again, made]
    · have grown : (groupEffect s c x).te.groups.length ≤ c.te.groups.length + 1 := groupEffect_length_le s c x
      refine ih ?_ ((List.mem_cons.1 hg).resolve_left same) ?_ ?_
      · rw [List.length_cons] at room
        omega
      · rwa [findEntry_groupEffect, if_neg same]
      · rwa [groupEffect_cft]

end Sys2Proof.Machine

/-!
PROOFS. An own update (R15), and what the close of any claim leaves and hands on (R13), read off the steps of the close.
-/
namespace Sys2Proof.Machine

/-! ### The entries after a close -/

section Entries

variable (w : Work) (s : State)

/-- The rescan that the claim's own tables ask for (R49). -/
def Work.asksRescan : Bool := w.te.groupTableFull && !w.ended.isEmpty

theorem GroupWork.rescan_of_full {c : GroupWork} (full : Config.groupPlaces ≤ c.te.groups.length) : c.rescan = c := by
  have still (l : List Nat) : l.foldl rescanGroup c = c := by
    induction l with
    | nil => rfl
    | cons g l ih => rw [List.foldl_cons, rescanGroup_of_full full, ih]
  cases h : c.rescans with
  | true => rw [GroupWork.rescan_of_rescans h, still]
  | false => exact GroupWork.rescan_of_not h

/-- A group that the effects left lacking finds the table full. -/
theorem Work.levelled_full {g : Nat} (touched : g ∈ w.touched) (absent : findEntry w.te.groups g = none)
    (lowest : lowestSupervisor w.te.cft g ≠ none) (lacks : findEntry (w.levelled s).te.groups g = none) :
    Config.groupPlaces ≤ (w.levelled s).te.groups.length := by
  have level := groupEffects_level s w.opened touched
  change Levelled _ g (Config.groupPlaces ≤ (w.levelled s).te.groups.length) (findEntry w.te.groups g)
    (lowestSupervisor w.te.cft g) (findEntry (w.levelled s).te.groups g) at level
  rw [absent, lacks] at level
  generalize lowestSupervisor w.te.cft g = sup at level lowest
  cases level with
  | away => exact absurd rfl lowest
  | lacking m full => exact full

theorem Work.levelled_full_iff : (w.levelled s).te.groupTableFull = true ↔ w.te.groupTableFull = true ∨
    lacksAmong w.touched w.te.cft w.te.groups (w.levelled s).te.groups :=
  groupEffects_full_iff s w.touched w.opened

theorem Work.levelled_ended : (w.levelled s).ended = w.ended :=
  (groupEffects_rest s w.touched w.opened).2

/-- Where the claim's tables do not ask for a rescan, none has an effect: a flag newly set finds the table full. -/
theorem Work.rescanned_of_not (h : w.asksRescan = false) : w.rescanned s = w.levelled s := by
  cases rescans : (w.levelled s).rescans with
  | false => exact GroupWork.rescan_of_not rescans
  | true =>
    obtain ⟨set, ended⟩ := Bool.and_eq_true_iff.1 rescans
    rw [w.levelled_ended s] at ended
    rw [Work.asksRescan, ended, Bool.and_true] at h
    obtain before | ⟨g, touched, absent, lowest, lacks⟩ := (w.levelled_full_iff s).1 set
    · rw [before] at h
      cases h
    · exact GroupWork.rescan_of_full (w.levelled_full s touched absent lowest lacks)

theorem Work.levelled_rescans (h : w.asksRescan = true) : (w.levelled s).rescans = true := by
  obtain ⟨set, ended⟩ := Bool.and_eq_true_iff.1 h
  refine Bool.and_eq_true_iff.2 ⟨(w.levelled_full_iff s).2 (.inl set), ?_⟩
  rwa [w.levelled_ended s]

variable {w s} {g : Nat}

theorem Work.findEntry_close_untouched {e : GroupEntry} (was : findEntry w.te.groups g = some e) (h : g ∉ w.touched) :
    findEntry (w.close s).te.groups g = some e := by
  rw [w.close_groups_eq]
  exact GroupWork.findEntry_rescan_of_some ((findEntry_groupEffects_of_not_mem s w.opened h).trans was)

/-- What the close makes of a touched group (the table of R35). -/
theorem Work.levelled_at (h : g ∈ w.touched) : Levelled (s.nowSec + s.returnGrace) g
    (Config.groupPlaces ≤ (w.levelled s).te.groups.length) (findEntry w.te.groups g)
    (lowestSupervisor w.te.cft g) (findEntry (w.levelled s).te.groups g) :=
  groupEffects_level s w.opened h

theorem Work.findEntry_close_of_levelled {e : GroupEntry} (h : findEntry (w.levelled s).te.groups g = some e) :
    findEntry (w.close s).te.groups g = some e := by
  rw [w.close_groups_eq]
  exact GroupWork.findEntry_rescan_of_some h

theorem Work.findEntry_close_supervised {e : GroupEntry} {m : Nat} (was : findEntry w.te.groups g = some e)
    (h : g ∈ w.touched) (lowest : lowestSupervisor w.te.cft g = some m) :
    findEntry (w.close s).te.groups g = some ⟨g, .down m⟩ := by
  have level := Work.levelled_at (s := s) h
  rw [was, lowest] at level
  refine Work.findEntry_close_of_levelled ?_
  generalize findEntry (w.levelled s).te.groups g = now at level ⊢
  cases level
  rfl

theorem Work.findEntry_close_returns {m : Nat} (was : findEntry w.te.groups g = some ⟨g, .down m⟩) (h : g ∈ w.touched)
    (lowest : lowestSupervisor w.te.cft g = none) :
    findEntry (w.close s).te.groups g = some ⟨g, .returning (s.nowSec + s.returnGrace)⟩ := by
  have level := Work.levelled_at (s := s) h
  rw [was, lowest] at level
  refine Work.findEntry_close_of_levelled ?_
  generalize findEntry (w.levelled s).te.groups g = now at level ⊢
  cases level
  rfl

theorem Work.findEntry_close_stays {d : Nat} (was : findEntry w.te.groups g = some ⟨g, .returning d⟩)
    (h : g ∈ w.touched) (lowest : lowestSupervisor w.te.cft g = none) :
    findEntry (w.close s).te.groups g = some ⟨g, .returning d⟩ := by
  have level := Work.levelled_at (s := s) h
  rw [was, lowest] at level
  refine Work.findEntry_close_of_levelled ?_
  generalize findEntry (w.levelled s).te.groups g = now at level ⊢
  cases level
  rfl

theorem Work.findEntry_levelled_unsupervised (was : findEntry w.te.groups g = none)
    (lowest : lowestSupervisor w.te.cft g = none) : findEntry (w.levelled s).te.groups g = none := by
  by_cases h : g ∈ w.touched
  · have level := Work.levelled_at (s := s) h
    rw [was, lowest] at level
    generalize findEntry (w.levelled s).te.groups g = now at level ⊢
    cases level
    rfl
  · exact (findEntry_groupEffects_of_not_mem s w.opened h).trans was

theorem Work.findEntry_close_unsupervised (was : findEntry w.te.groups g = none)
    (lowest : lowestSupervisor w.te.cft g = none) : findEntry (w.close s).te.groups g = none := by
  rw [w.close_groups_eq]
  refine (GroupWork.findEntry_rescan_of_unsupervised ?_).trans (Work.findEntry_levelled_unsupervised was lowest)
  rwa [w.levelled_cft]

theorem Work.findEntry_close_without_rescan (was : findEntry w.te.groups g = none) (h : g ∉ w.touched)
    (rescans : w.asksRescan = false) : findEntry (w.close s).te.groups g = none := by
  rw [w.close_groups_eq, w.rescanned_of_not s rescans]
  exact (findEntry_groupEffects_of_not_mem s w.opened h).trans was

/-- A supervised group without an entry gets one where it is touched or rescanned, or finds the table full. -/
theorem Work.findEntry_close_created {m : Nat} (was : findEntry w.te.groups g = none)
    (lowest : lowestSupervisor w.te.cft g = some m) (h : g ∈ w.touched ∨ w.asksRescan = true) :
    findEntry (w.close s).te.groups g = some ⟨g, .down m⟩ ∨
      findEntry (w.close s).te.groups g = none ∧ 128 ≤ (w.close s).te.groups.length := by
  have lowest' : lowestSupervisor (w.levelled s).te.cft g = some m := by rwa [w.levelled_cft]
  rw [w.close_groups_eq]
  by_cases touched : g ∈ w.touched
  · have level := Work.levelled_at (s := s) touched
    rw [was, lowest] at level
    cases made : findEntry (w.levelled s).te.groups g with
    | some e =>
      rw [made] at level
      cases level
      exact .inl (GroupWork.findEntry_rescan_of_some made)
    | none =>
      rw [made] at level
      cases level with
      | lacking _ full =>
        have same : w.rescanned s = w.levelled s := GroupWork.rescan_of_full full
        rw [same]
        exact .inr ⟨made, full⟩
  · have absent := (findEntry_groupEffects_of_not_mem s w.opened touched).trans was
    have rescans := w.levelled_rescans s (h.resolve_left touched)
    exact (GroupWork.rescan_lacking absent lowest').imp_right fun ⟨lacks, full⟩ => ⟨lacks, full rescans⟩

/-- In an ascending list a relation that holds along the list holds from each member to every greater one. -/
theorem rel_of_lt_of_pairwise {l : List Nat} {R : Nat → Nat → Prop} (ascending : l.Pairwise (· < ·)) (h : l.Pairwise R)
    {a b : Nat} (ha : a ∈ l) (hb : b ∈ l) (lt : a < b) : R a b := by
  induction l with
  | nil => cases ha
  | cons x l ih =>
    obtain ⟨first, rest⟩ := List.pairwise_cons.1 ascending
    obtain ⟨first', rest'⟩ := List.pairwise_cons.1 h
    obtain rfl | la := List.mem_cons.1 ha
    · exact first' b ((List.mem_cons.1 hb).resolve_left (Nat.ne_of_gt lt))
    · obtain rfl | lb := List.mem_cons.1 hb
      · exact absurd lt (Nat.lt_asymm (first a la))
      · exact ih rest rest' la lb

/-- The rescan goes in ascending order: it does not skip a group for a greater one (R49). -/
theorem Work.findEntry_close_ascending {h m : Nat} (rescans : w.asksRescan = true) (lt : g < h) (hg : g ∉ w.touched)
    (hh : h ∉ w.touched) (wasg : findEntry w.te.groups g = none) (wash : findEntry w.te.groups h = none)
    (lowest : lowestSupervisor w.te.cft g = some m) (made : findEntry (w.close s).te.groups h ≠ none) :
    findEntry (w.close s).te.groups g ≠ none := by
  rw [w.close_groups_eq] at made ⊢
  have absent {x : Nat} (hx : x ∉ w.touched) (was : findEntry w.te.groups x = none) :
      findEntry (w.levelled s).te.groups x = none :=
    (findEntry_groupEffects_of_not_mem s w.opened hx).trans was
  have supervised : lowestSupervisor (w.levelled s).te.cft g ≠ none := by
    rw [w.levelled_cft, lowest]
    exact nofun
  have lackingG : g ∈ lackingGroups (w.levelled s).te := (mem_lackingGroups ..).2 ⟨absent hg wasg, supervised⟩
  have lackingH : h ∈ lackingGroups (w.levelled s).te := by
    by_contra not
    exact made ((GroupWork.findEntry_rescan_of_not_lacking not).trans (absent hh wash))
  have run : w.rescanned s = (lackingGroups (w.levelled s).te).foldl rescanGroup (w.levelled s) :=
    GroupWork.rescan_of_rescans (w.levelled_rescans s rescans)
  rw [run] at made ⊢
  have first := rescans_first (c := w.levelled s) (lackingGroups_nodup _) (lackingGroups_absent _)
  exact rel_of_lt_of_pairwise (lackingGroups_ascending _) first lackingG lackingH lt supervised made

theorem Work.findEntry_close_of_room {m : Nat} (room : w.te.groups.length + w.touched.length ≤ 128)
    (was : findEntry w.te.groups g = none) (touched : g ∈ w.touched) (lowest : lowestSupervisor w.te.cft g = some m) :
    findEntry (w.close s).te.groups g = some ⟨g, .down m⟩ :=
  Work.findEntry_close_of_levelled (findEntry_groupEffects_of_room s (c := w.opened) room touched was lowest)

theorem Work.close_groups_length (h : w.te.groups.length ≤ 128) : (w.close s).te.groups.length ≤ 128 := by
  rw [w.close_groups_eq]
  exact (GroupWork.rescan_length _).2 ((groupEffects_length s w.touched w.opened).2 h)

end Entries

/-! ### What a close reports and signals (R24, R48, R50 to R52) -/

section Reports

variable (w : Work) (s : State)

/-- GROUP-TABLE-FULL is raised at a close: a new lack while it was clear (R48). -/
theorem Work.levelled_raised : (w.levelled s).raised = true ↔ w.te.groupTableFull = false ∧
    ∃ g ∈ w.touched, findEntry w.te.groups g = none ∧ lowestSupervisor w.te.cft g ≠ none ∧
      findEntry (w.close s).te.groups g = none := by
  have raised : (w.levelled s).raised = (!w.te.groupTableFull && (w.levelled s).te.groupTableFull) :=
    (groupEffects_raised s w.touched w.opened).trans (Bool.false_or _)
  rw [raised, Bool.and_eq_true, Bool.not_eq_true', w.levelled_full_iff]
  refine and_congr_right fun clear => ?_
  rw [clear, or_iff_right Bool.false_ne_true, lacksAmong]
  refine exists_congr fun g => and_congr_right fun touched => and_congr_right fun absent =>
    and_congr_right fun lowest => ⟨fun lacks => ?_, fun lacks => ?_⟩
  · have same : w.rescanned s = w.levelled s := GroupWork.rescan_of_full (w.levelled_full s touched absent lowest lacks)
    rwa [w.close_groups_eq, same]
  · cases made : findEntry (w.levelled s).te.groups g with
    | none => rfl
    | some e =>
      rw [Work.findEntry_close_of_levelled made] at lacks
      cases lacks

theorem Work.rescanned_full : (w.rescanned s).te.groupTableFull = (w.te.groupTableFull || (w.levelled s).raised) := by
  have raised : (w.levelled s).raised = (!w.te.groupTableFull && (w.levelled s).te.groupTableFull) :=
    (groupEffects_raised s w.touched w.opened).trans (Bool.false_or _)
  have mono := (w.levelled_full_iff s).2 ∘ Or.inl
  rw [Work.rescanned, GroupWork.rescan_full, raised]
  revert mono
  cases w.te.groupTableFull <;> cases (w.levelled s).te.groupTableFull <;> simp

theorem Work.rescanned_grows : w.opened.Grows (w.rescanned s) :=
  (groupEffects_grow s w.touched w.opened).trans (GroupWork.rescan_grows _)

theorem Work.begun_mem_signals (g : Nat) : .begun g ∈ (w.close s).signals ↔
    findEntry w.te.groups g = none ∧ findEntry (w.close s).te.groups g ≠ none := by
  rw [w.close_signals, begun_mem_holdSignals, (w.rescanned_grows s).created, w.close_groups_eq]
  exact or_iff_right List.not_mem_nil

theorem Work.ended_mem_signals (g : Nat) : .ended g ∈ (w.close s).signals ↔ g ∈ w.ended := by
  rw [w.close_signals, ended_mem_holdSignals]

theorem Work.mem_lacking_close (g : Nat) : g ∈ lackingGroups (w.close s).te ↔
    findEntry (w.close s).te.groups g = none ∧ lowestSupervisor w.te.cft g ≠ none := by
  rw [mem_lackingGroups, w.close_cft]

/-- The lacking groups after the rescan are those that the close leaves. -/
theorem Work.lacking_rescanned : lackingGroups (w.rescanned s).te = lackingGroups (w.close s).te := by
  rw [lackingGroups, lackingGroups, w.close_cft, w.rescanned_cft, w.close_groups_eq]

theorem Work.rescanned_clears {raised : Bool} (hraised : (w.levelled s).raised = raised) :
    (w.rescanned s).te.groupFullClears = ((w.te.groupTableFull || raised) &&
      decide ((w.close s).te.groups.length ≤ 120 ∧ lackingGroups (w.close s).te = [])) := by
  rw [TableEngine.groupFullClears, w.rescanned_full, w.lacking_rescanned, hraised, w.close_groups_eq]

/-- A close that raises GROUP-TABLE-FULL does not clear it: a group lacks its entry. -/
theorem Work.rescanned_clears_of_set : (w.rescanned s).te.groupFullClears = (w.te.groupTableFull &&
    decide ((w.close s).te.groups.length ≤ 120 ∧ lackingGroups (w.close s).te = [])) := by
  rw [w.rescanned_clears s rfl]
  cases raised : (w.levelled s).raised with
  | false => rw [Bool.or_false]
  | true =>
    obtain ⟨-, g, -, -, lowest, lacks⟩ := (w.levelled_raised s).1 raised
    have lacking : lackingGroups (w.close s).te ≠ [] :=
      List.ne_nil_of_mem ((w.mem_lacking_close s g).2 ⟨lacks, lowest⟩)
    simp [lacking]

theorem Work.close_groupFull : (w.close s).te.groupTableFull =
    ((w.te.groupTableFull || (w.levelled s).raised) && !(w.rescanned s).te.groupFullClears) := by
  have flag : (w.close s).te.groupTableFull =
      ((w.levelled s).te.groupTableFull && !(w.rescanned s).te.groupFullClears) := by
    rw [Work.close_eq]
    rfl
  rw [flag, ← w.rescanned_full, Work.rescanned, GroupWork.rescan_full]

end Reports

/-! ### The record notices of a close (R27, R28, R30) -/

section RecordNotices

variable (w : Work) (s : State)

/-- The keys that get a record notice, in key order. -/
def Work.noticedKeys : List Key := (w.removed.map (·.1)).foldr insertKey w.changed

theorem Work.mem_noticedKeys (k : Key) : k ∈ w.noticedKeys ↔ k ∈ w.changed ∨ ∃ x ∈ w.removed, x.1 = k := by
  rw [Work.noticedKeys, mem_foldr_insertKey, List.mem_map, or_comm]

/-- The RECORD-REMOVED notices of a key. -/
def Work.removals (k : Key) : List Notice :=
  (w.removed.filter (fun x => decide (x.1 = k))).map (fun x => { report := x.2, before := none })

variable {w s} {start te : TableEngine} {k : Key}

theorem keyNotices_of_unchanged (h : k ∉ w.changed ∨ findRecord te.cft k = none) :
    keyNotices start w te k = w.removals k := by
  unfold keyNotices
  by_cases changed : k ∈ w.changed
  · rw [if_pos (List.contains_iff_mem.2 changed), h.resolve_left (not_not.2 changed)]
    exact List.append_nil _
  · rw [if_neg (mt List.contains_iff_mem.1 changed)]
    exact List.append_nil _

/-- The RECORD-CHANGED of a record, with what stood at the start of the claim unless the claim inserted it (R171). -/
def Work.changedNotice (w : Work) (start : TableEngine) (groups : List GroupEntry) (k : Key) (r : Record) : Notice :=
  let before := if k ∈ w.inserted then none else seenAt start.cft start.groups k
  { report := .recordChanged (r.item groups), before := before }

theorem keyNotices_of_changed {r : Record} (changed : k ∈ w.changed) (held : findRecord te.cft k = some r) :
    keyNotices start w te k = w.removals k ++ [w.changedNotice start te.groups k r] := by
  simp only [keyNotices, List.contains_iff_mem, changed, if_true, held]
  rfl

end RecordNotices

end Sys2Proof.Machine

/-!
PROOFS. An own update (R15), and the close of a claim as a whole (R13).
-/
namespace Sys2Proof.Machine

/-! ### The operations of a claim, their touched groups -/

theorem touch_ascending (r : Record) {l : List Nat} (h : l.Pairwise (· < ·)) : (touch r l).Pairwise (· < ·) := by
  unfold touch
  split
  · exact insertNat_ascending _ _ h
  · exact h

theorem Work.delete_of_none {w : Work} {k : Key} (absent : findRecord w.te.cft k = none) (c : DeleteCause) :
    w.delete k c = w := by
  simp only [Work.delete, absent]

theorem Work.delete_of_some {w : Work} {k : Key} {r : Record} (held : findRecord w.te.cft k = some r) (c : DeleteCause) :
    w.delete k c = { w with
      te := { w.te with cft := eraseRecord k w.te.cft }
      removed := w.removed ++ [(k, .recordRemoved (r.item w.te.groups) c)]
      changed := w.changed.filter (fun j => decide (j ≠ k))
      inserted := w.inserted.filter (fun j => decide (j ≠ k))
      touched := touch r w.touched
      dirty := true } := by
  simp only [Work.delete, held]

/-! ### An own update (R15) -/

section OwnUpdate

variable {s : State} {k : Nat} (claim : s.nextClaim = some (.ownUpdate k))

/-- The state as the claim of an own update leaves its other blocks. -/
def State.ownUpdateTaken (s : State) : State :=
  { s with origin := { s.origin with ownUpdates := s.origin.ownUpdates.drop 1 } }

include claim

theorem ownUpdate_of_absent {r : Record} (held : (s.origin.slot k).record = some r)
    (absent : findRecord s.table.cft ⟨s.own, k⟩ = none) : ownUpdate s =
      s.ownUpdateTaken.closeClaim ((Work.begin s.table).place { r with key := ⟨s.own, k⟩ }) [] := by
  simp only [ownUpdate, claim, held, absent]
  rfl

theorem ownUpdate_of_present {r old : Record} (held : (s.origin.slot k).record = some r)
    (present : findRecord s.table.cft ⟨s.own, k⟩ = some old) : ownUpdate s =
      s.ownUpdateTaken.closeClaim ((Work.begin s.table).replace old { r with key := ⟨s.own, k⟩ }) [] := by
  simp only [ownUpdate, claim, held, present]
  rfl

theorem ownUpdate_of_empty (empty : (s.origin.slot k).record = none) : ownUpdate s =
    s.ownUpdateTaken.closeClaim ((Work.begin s.table).delete ⟨s.own, k⟩ .linger) [] := by
  simp only [ownUpdate, claim, empty]
  rfl

end OwnUpdate

/-- What an own update's work is: the record of a key becomes the one given, or goes where none is (R15, R27, R28). -/
structure UpdateWork (te : TableEngine) (key : Key) (was now : Option Record) (w : Work) : Prop where
  found : findRecord w.te.cft key = now
  others : ∀ j, j ≠ key → findRecord w.te.cft j = findRecord te.cft j
  tables : w.te = { te with cft := w.te.cft }
  changed : ∀ r, now = some r → w.removed = [] ∧ w.changed = [key] ∧ w.inserted = (if was = none then [key] else [])
  deleted : now = none → w.changed = [] ∧ w.inserted = [] ∧
    w.removed = ((was.map fun old => (key, Report.recordRemoved (old.item te.groups) .linger)).toList)
  ascending : w.touched.Pairwise (· < ·)
  touched : ∀ g, g ∈ w.touched ↔ ∃ r, (was = some r ∨ now = some r) ∧ r.kind = .supply ∧ r.group = g
  ended : w.ended = []
  refused : w.refused = false
  dirty : w.dirty = (was.isSome || now.isSome)

section UpdateWork

variable {te : TableEngine} {key : Key} {r old : Record}

theorem UpdateWork.place (hkey : r.key = key) (absent : findRecord te.cft key = none) :
    UpdateWork te key none (some r) ((Work.begin te).place r) := by
  subst hkey
  refine ⟨findRecord_insert _ _ absent, fun j hj => findRecord_insert_of_ne _ _ _ hj, rfl,
    fun _ _ => ⟨rfl, rfl, rfl⟩, nofun, touch_ascending _ .nil, fun g => ?_, rfl, rfl, rfl⟩
  simp [Work.place, Work.begin, mem_touch]

theorem UpdateWork.replace (hkey : r.key = key) (present : findRecord te.cft key = some old) :
    UpdateWork te key (some old) (some r) ((Work.begin te).replace old r) := by
  subst hkey
  refine ⟨findRecord_put _ _ (Option.isSome_iff_exists.2 ⟨_, present⟩), fun j hj => findRecord_put_of_ne _ _ _ hj, rfl,
    fun _ _ => ⟨rfl, rfl, rfl⟩, nofun, touch_ascending _ (touch_ascending _ .nil), fun g => ?_, rfl, rfl, rfl⟩
  simp only [Work.replace, Work.begin, mem_touch, List.not_mem_nil, or_false, Option.some.injEq]
  constructor
  · rintro (h | h)
    · exact ⟨_, .inr rfl, h⟩
    · exact ⟨_, .inl rfl, h⟩
  · rintro ⟨x, rfl | rfl, h⟩
    · exact .inr h
    · exact .inl h

theorem UpdateWork.delete (te : TableEngine) (key : Key) :
    UpdateWork te key (findRecord te.cft key) none ((Work.begin te).delete key .linger) := by
  have found := Work.findRecord_delete (Work.begin te) key
  cases held : findRecord te.cft key with
  | none =>
    rw [Work.delete_of_none (w := Work.begin te) held]
    exact ⟨held, fun j _ => rfl, rfl, nofun, fun _ => ⟨rfl, rfl, rfl⟩, .nil, fun g => by simp [Work.begin], rfl, rfl, rfl⟩
  | some old =>
    have work := Work.delete_of_some (w := Work.begin te) held .linger
    refine ⟨(found key .linger).trans (if_pos rfl), fun j hj => (found j .linger).trans (if_neg hj), ?_, nofun, ?_, ?_,
      fun g => ?_, ?_, ?_, ?_⟩
    all_goals rw [work]
    · rfl
    · exact fun _ => ⟨rfl, rfl, rfl⟩
    · exact touch_ascending _ .nil
    · simp [Work.begin, mem_touch]
    all_goals rfl

end UpdateWork

/-- An own update closes the work of R15. -/
theorem ownUpdate_closes {s : State} {k : Nat} (claim : s.nextClaim = some (.ownUpdate k)) : ∃ w,
    ownUpdate s = s.ownUpdateTaken.closeClaim w [] ∧ UpdateWork s.table ⟨s.own, k⟩ (findRecord s.table.cft ⟨s.own, k⟩)
      ((s.origin.slot k).record.map (fun r => { r with key := ⟨s.own, k⟩ })) w := by
  cases held : (s.origin.slot k).record with
  | none => exact ⟨_, ownUpdate_of_empty claim held, UpdateWork.delete ..⟩
  | some r =>
    cases found : findRecord s.table.cft ⟨s.own, k⟩ with
    | none => exact ⟨_, ownUpdate_of_absent claim held found, UpdateWork.place rfl found⟩
    | some old => exact ⟨_, ownUpdate_of_present claim held found, UpdateWork.replace rfl found⟩

/-! ### The close as a whole -/

section Close

variable {w : Work} {s : State}

theorem Work.mem_close_timers (x : TimerClaim) : x ∈ (w.close s).te.timers ↔ x ∈ w.te.timers ∧
    ((∀ d k, x = .linger d k → ∃ r, findRecord w.te.cft k = some r ∧ r.state = .cleared ∧
        ∃ at', r.clearedAt = some at' ∧ d = at' + s.roster.windowOf s.window k.origin) ∧
      (∀ d g, x = .grace d g → ∃ e, findEntry (w.close s).te.groups g = some e ∧ e.state = .returning d)) := by
  rw [w.close_timers, List.mem_filter]
  refine and_congr_right fun _ => ?_
  cases x with
  | linger d k =>
    rw [TimerClaim.stands_linger, w.close_cft]
    exact ⟨fun h => ⟨fun d' k' same => by cases same; exact h, nofun⟩, fun h => h.1 d k rfl⟩
  | grace d g =>
    rw [TimerClaim.stands_grace]
    refine ⟨fun h => ⟨nofun, fun d' g' same => by cases same; exact ⟨_, h, rfl⟩⟩, fun h => ?_⟩
    obtain ⟨e, he, state⟩ := h.2 d g rfl
    obtain ⟨rfl, -⟩ := findEntry_some he
    rw [he, ← state]

theorem Work.close_reports : (w.close s).reports =
    (if w.refused then [⟨.tableEngine, .tableFull, true⟩] else []) ++
    (if w.te.tableFull && decide (peerCount s.own w.te.cft ≤ 927) then [⟨.tableEngine, .tableFull, false⟩] else []) ++
    (if w.dirty && (clashing s.own s.supervised w.te.cft != w.te.groupClash)
      then [⟨.tableEngine, .groupClash, clashing s.own s.supervised w.te.cft⟩] else []) ++
    (if (w.levelled s).raised then [⟨.tableEngine, .groupTableFull, true⟩] else []) ++
    (if (w.rescanned s).te.groupFullClears then [⟨.tableEngine, .groupTableFull, false⟩] else []) := by
  rw [Work.close_eq]

end Close

/-- Settles O26: the own update, then the close by its tables, its entries, its reports and signals, and its notices. -/
theorem ownUpdateAndCloseBringTheTablesLevel : Obligations.OwnUpdateAndCloseBringTheTablesLevel := by
  refine ⟨fun k s key was now claim hkey hwas hnow => ?_, fun w s extra c hc => ?_,
    fun w s c rescans before after lowest hc hrescans hbefore hafter hlowest => ?_,
    fun w s c raised cleared clash group hc hraised hcleared hclash hgroup => ?_,
    fun w s c seen removals hc order hseen hremovals => ?_, fun own g cft te => ⟨rfl, ?_, rfl⟩⟩
  · obtain ⟨w, taken, work⟩ := ownUpdate_closes claim
    subst hkey hwas hnow
    refine ⟨w, _, exec_yields rfl taken, rfl, (congrArg (findRecord · _) (w.close_cft _)).trans work.found,
      fun j hj => (congrArg (findRecord · _) (w.close_cft _)).trans (work.others j hj), w.close_cft _, work.tables,
      work.changed, fun gone => ?_, work.ascending, work.touched, work.ended, work.refused, work.dirty⟩
    obtain ⟨changed, inserted, removed⟩ := work.deleted gone
    refine ⟨changed, inserted, removed.trans ?_⟩
    cases findRecord s.table.cft ⟨s.own, k⟩ <;> rfl
  · subst hc
    refine ⟨rfl, w.close_te s, fun x => ?_⟩
    simp only [Work.mem_close_timers, RosterUnit.windowOf_eq] <;> rfl
  · subst hc hbefore hafter hlowest
    obtain rfl : rescans = w.asksRescan := hrescans
    refine ⟨fun g m => ?_, fun g e was => Work.findEntry_close_untouched was,
      fun g e m was touched lowest => Work.findEntry_close_supervised was touched lowest,
      fun g m was touched none => Work.findEntry_close_returns was touched none,
      fun g d was touched none => (Work.findEntry_close_stays was touched none).trans was.symm,
      fun g was none => Work.findEntry_close_unsupervised was none,
      fun g was untouched none => Work.findEntry_close_without_rescan was untouched none,
      fun g m was lowest made => Work.findEntry_close_created was lowest made,
      fun g h m rescans lt hg hh wasg wash lowest => Work.findEntry_close_ascending rescans lt hg hh wasg wash lowest,
      fun room g m was touched lowest => Work.findEntry_close_of_room room was touched lowest,
      Work.close_groups_length⟩
    simp only [lowestSupervisor_eq_some, Record.supervises_iff, and_imp, and_assoc]
  · subst hc
    obtain rfl : group = HoldSignal.group := hgroup.trans (funext fun x => by cases x <;> rfl)
    obtain rfl : clash = clashing s.own s.supervised w.te.cft := by
      rw [hclash, Bool.eq_iff_iff, decide_eq_true_iff, clashing_iff]
    have raises : (w.levelled s).raised = raised := by
      rw [hraised, Bool.eq_iff_iff, Work.levelled_raised, Bool.and_eq_true, Bool.not_eq_true', decide_eq_true_iff]
    have clears : (w.rescanned s).te.groupFullClears = cleared := (w.rescanned_clears_of_set s).trans hcleared.symm
    refine ⟨w.mem_lacking_close s, ?_, w.close_clash s, w.close_tableFull s, ?_, w.begun_mem_signals s,
      w.ended_mem_signals s, ?_⟩
    · rw [w.close_groupFull, raises, clears]
    · rw [Work.close_reports, raises, clears]
    · rw [w.close_signals]
      exact holdSignals_ordered ..
  · subst hc
    refine ⟨w.noticedKeys, noticedGroups s.table.groups (w.close s).te.groups, keyNotices s.table w (w.close s).te,
      groupNotice s.table.groups (w.close s).te.groups w.te.cft, w.close_notices s, KeysAscend.insertAll order _,
      noticedGroups_ascending .., w.mem_noticedKeys, fun g => ?_, fun k h => ?_, fun k r changed held => ?_,
      fun g e was gone => groupNotice_of_gone was gone, fun g m now => groupNotice_of_down now,
      fun g d now => ⟨fun ⟨e, was⟩ => groupNotice_of_still_returning was now, fun was => groupNotice_of_returning was now⟩⟩
    · rw [mem_noticedGroups, Option.isSome_iff_ne_none, Option.isSome_iff_ne_none]
    · rw [hremovals]
      exact keyNotices_of_unchanged (by rwa [w.close_cft])
    · rw [hremovals, hseen]
      exact keyNotices_of_changed changed (by rwa [w.close_cft])
  · simp only [heldCount, Bool.decide_and]

end Sys2Proof.Machine

/-!
PROOFS. The timer expiries (R26, R40, R41) and the roster events (R20, R114) as claims.
-/
namespace Sys2Proof.Machine

theorem State.closeClaim_cft (s : State) (w : Work) (extra : List Notice) :
    (s.closeClaim w extra).table.cft = w.te.cft :=
  w.close_cft s

/-! ### A linger expiry (R26) -/

/-- The state as the claim of a timer expiry leaves its other blocks. -/
def State.timerTaken (s : State) : State :=
  { s with table := { s.table with timers := s.table.timers.drop 1 } }

section Linger

variable {s : State} {d : Nat} {k : Key} (claim : s.nextClaim = some (.timer (.linger d k)))
include claim

theorem lingerExpiry_of_due {r : Record} {e : Nat} (held : findRecord s.table.cft k = some r)
    (deadline : lingerDeadline s.window s.roster r = some e) (past : e ≤ s.nowSec) : lingerExpiry s =
      s.timerTaken.closeClaim ((Work.begin s.timerTaken.table).delete k .linger) [] := by
  simp only [lingerExpiry, claim, held, Option.bind_some, deadline, if_pos past]
  rfl

theorem lingerExpiry_of_not_due
    (h : ∀ r e, findRecord s.table.cft k = some r → lingerDeadline s.window s.roster r = some e → s.nowSec < e) :
    lingerExpiry s = s.timerTaken.closeClaim (Work.begin s.timerTaken.table) [] := by
  simp only [lingerExpiry, claim]
  cases bound : (findRecord s.table.cft k).bind (lingerDeadline s.window s.roster) with
  | none => rfl
  | some e =>
    obtain ⟨r, held, deadline⟩ := Option.bind_eq_some_iff.1 bound
    dsimp only
    rw [if_neg (Nat.not_le.2 (h r e held deadline))]
    rfl

end Linger

/-! ### A grace expiry (R40, R41) -/

section Grace

variable {s : State} {d g : Nat} (claim : s.nextClaim = some (.timer (.grace d g)))

/-- The work of a grace expiry that removes its entry. -/
def State.graceWork (s : State) (g : Nat) : Work :=
  { te := { s.timerTaken.table with groups := s.table.groups.filter (fun e => decide (e.group ≠ g)) }
    removed := [], changed := [], inserted := [], touched := [], ended := [g], refused := false, dirty := false }

include claim

theorem graceExpiry_of_due {e : Nat} (entry : findEntry s.table.groups g = some ⟨g, .returning e⟩) (past : e ≤ s.nowSec) :
    graceExpiry s = s.timerTaken.closeClaim (s.graceWork g) [] := by
  simp only [graceExpiry, claim, entry]
  exact if_pos past

theorem graceExpiry_of_not_due (h : ∀ e, findEntry s.table.groups g = some ⟨g, .returning e⟩ → s.nowSec < e) :
    graceExpiry s = s.timerTaken.closeClaim (Work.begin s.timerTaken.table) [] := by
  simp only [graceExpiry, claim]
  split
  next h' e entry =>
    obtain ⟨rfl, -⟩ := findEntry_some entry
    exact if_neg (Nat.not_le.2 (h e entry))
  next => rfl

end Grace

theorem findEntry_graceWork (s : State) (g : Nat) : findEntry (s.graceWork g).te.groups g = none :=
  (findEntry_eraseGroup ..).trans (if_pos rfl)

/-- An entry that goes for good is announced UP (R46). -/
theorem up_mem_notices {w : Work} {s : State} {g : Nat} {e : GroupEntry} (was : findEntry s.table.groups g = some e)
    (gone : findEntry (w.close s).te.groups g = none) : groupNoticeOf g .up none w.te.cft ∈ (w.close s).notices := by
  rw [w.close_notices, groupNotices_eq]
  refine List.mem_append_right _ (List.mem_flatMap.2 ⟨g, (mem_noticedGroups ..).2 (.inl (by rw [was]; exact nofun)), ?_⟩)
  rw [groupNotice_of_gone was gone]
  exact List.mem_singleton_self _

/-- Settles O27: either expiry looks its deadline up again, and closes the work that it still asks for. -/
theorem timerExpiriesAreRechecked : Obligations.TimerExpiriesAreRechecked := by
  intro s
  refine ⟨fun d k u due claim hu hdue => ?_, fun d g u due claim hu hdue => ?_⟩
  · obtain rfl : u = s.timerTaken := hu
    have due_iff (r : Record) : due r ↔ ∃ e, findRecord s.table.cft k = some r ∧
        lingerDeadline s.window s.roster r = some e ∧ e ≤ s.nowSec := by
      rw [hdue]
      constructor
      · rintro ⟨held, cleared, at', stamp, past⟩
        obtain ⟨rfl, -⟩ := findRecord_some held
        have window := s.roster.windowOf_eq s.window r.key.origin
        exact ⟨_, held, (lingerDeadline_eq_some ..).2 ⟨cleared, at', stamp, rfl⟩, (congrArg (at' + ·) window).trans_le past⟩
      · rintro ⟨e, held, deadline, past⟩
        obtain ⟨rfl, -⟩ := findRecord_some held
        obtain ⟨cleared, at', stamp, rfl⟩ := (lingerDeadline_eq_some ..).1 deadline
        have window := s.roster.windowOf_eq s.window r.key.origin
        exact ⟨held, cleared, at', stamp, (congrArg (at' + ·) window).symm.trans_le past⟩
    by_cases any : ∃ r, due r
    · obtain ⟨r, hr⟩ := any
      obtain ⟨e, held, deadline, past⟩ := (due_iff r).1 hr
      have found := Work.findRecord_delete (Work.begin s.timerTaken.table) k
      have work := Work.delete_of_some (w := Work.begin s.timerTaken.table) held .linger
      refine ⟨_, _, exec_yields rfl (lingerExpiry_of_due claim held deadline past), rfl, State.closeClaim_cft .., fun r' hr' => ?_,
        fun none => absurd hr (none r), ?_, ?_, ?_, ?_, fun j hj => ?_⟩
      · obtain ⟨-, held', -⟩ := (due_iff r').1 hr'
        rw [held] at held'
        cases held'
        refine ⟨(congrArg (findRecord · k) (State.closeClaim_cft ..)).trans ((found k .linger).trans (if_pos rfl)), ?_, ?_, ?_, ?_⟩
        all_goals rw [work]
        all_goals rfl
      · rw [work]
        rfl
      · rw [work]
        rfl
      · rw [work]
        rfl
      · rw [work]
        rfl
      · exact (congrArg (findRecord · j) (State.closeClaim_cft ..)).trans ((found j .linger).trans (if_neg hj))
    · have none (r : Record) : ¬due r := fun hr => any ⟨r, hr⟩
      refine ⟨_, _, exec_yields rfl (lingerExpiry_of_not_due claim fun r e held deadline => ?_), rfl, State.closeClaim_cft ..,
        fun r hr => absurd hr (none r), fun _ => ⟨State.closeClaim_begin_cft .., State.closeClaim_begin_groups .., rfl⟩,
        rfl, rfl, rfl, rfl, fun j _ => congrArg (findRecord · j) (State.closeClaim_begin_cft ..)⟩
      by_contra past
      exact none r ((due_iff r).2 ⟨e, held, deadline, Nat.not_lt.1 past⟩)
  · obtain rfl : u = s.timerTaken := hu
    by_cases expires : due
    · obtain ⟨e, entry, past⟩ : ∃ d', findEntry s.table.groups g = some ⟨g, .returning d'⟩ ∧ d' ≤ s.nowSec := by
        rwa [hdue] at expires
      refine ⟨_, _, exec_yields rfl (graceExpiry_of_due claim entry past), rfl, State.closeClaim_cft .., fun _ => ⟨rfl, fun alone => ?_⟩,
        fun kept => absurd expires kept⟩
      have gone := Work.findEntry_close_unsupervised (s := s.timerTaken) (findEntry_graceWork s g) alone
      refine ⟨gone, List.mem_append_right _ ((Work.ended_mem_signals _ _ g).2 List.mem_cons_self), up_mem_notices entry gone⟩
    · refine ⟨_, _, exec_yields rfl (graceExpiry_of_not_due claim fun e entry => ?_), rfl, State.closeClaim_begin_cft ..,
        fun due => absurd due expires, fun _ => ⟨State.closeClaim_begin_groups .., rfl⟩⟩
      by_contra past
      rw [hdue] at expires
      exact expires ⟨e, entry, Nat.not_lt.1 past⟩

/-! ### Roster events (R20, R114) -/

/-- The state as the claim of a roster event leaves its other blocks. -/
def State.eventTaken (s : State) : State := { s with roster := { s.roster with events := s.roster.events.drop 1 } }

section Events

variable {s : State} {n : Nat}

theorem rosterEventSilent_of_claim (claim : s.nextClaim = some (.event ⟨n, .silent⟩)) : rosterEventSilent s =
    s.eventTaken.closeClaim ((Work.begin s.table).markStale n)
      [{ report := .stationSilent n (((s.roster.find n).map (·.lastHeard)).getD 0)
          (recordsOf ((Work.begin s.table).markStale n).te.cft n).length
         before := none }] := by
  simp only [rosterEventSilent, claim]
  cases s.roster.find n <;> rfl

theorem rosterEventPresent_of_claim (claim : s.nextClaim = some (.event ⟨n, .present⟩)) : rosterEventPresent s =
    s.eventTaken.closeClaim (Work.begin s.table)
      [{ report := .stationBack n ((recordsOf s.table.cft n).filter (fun r => decide (r.freshness = .stale))).length
         before := none }] := by
  simp only [rosterEventPresent, claim]
  rfl

/-- The records that a SILENT event turns STALE (R20). -/
def turnedRecords (cft : List Record) (n : Nat) : List Record :=
  cft.filter (fun r => decide (r.key.origin = n) && decide (r.freshness = .fresh))

theorem Work.markStale_changed (w : Work) (n : Nat) :
    (w.markStale n).changed = ((turnedRecords w.te.cft n).map (·.key)).foldr insertKey w.changed := by
  rw [List.foldr_map]
  rfl

/-- Marking records STALE leaves an origin as many as it had. -/
theorem recordsOf_markStale_length (te : TableEngine) (n : Nat) :
    (recordsOf ((Work.begin te).markStale n).te.cft n).length = (recordsOf te.cft n).length := by
  have marked : ((Work.begin te).markStale n).te.cft =
      te.cft.map (fun r => if r.key.origin = n then { r with freshness := .stale } else r) := rfl
  rw [marked, recordsOf, recordsOf, List.filter_map, List.length_map]
  refine congrArg List.length (List.filter_congr fun r _ => ?_)
  by_cases origin : r.key.origin = n <;> simp [origin]

end Events

/-- Settles O28: the SILENT event marks its station's records and hands on nothing but their notices; the PRESENT event has
no work. -/
theorem rosterEventsReachTheTable : Obligations.RosterEventsReachTheTable := by
  intro n s u hu
  obtain rfl : u = s.eventTaken := hu
  refine ⟨fun claim => ?_, fun claim => ?_⟩
  · have taken := rosterEventSilent_of_claim claim
    rw [recordsOf_markStale_length] at taken
    have signals := Work.close_signals_of_untouched ((Work.begin s.table).markStale n) s.eventTaken rfl rfl
    refine ⟨(Work.begin s.table).markStale n, _, exec_yields rfl taken, ?_, rfl, State.closeClaim_cft .., Work.close_groups ((Work.begin s.table).markStale n) s.eventTaken rfl rfl,
      fun k => ?_, ?_, rfl, rfl, rfl, rfl, rfl, ?_⟩
    · cases s.roster.find n <;> rfl
    · rw [Work.markStale_changed, mem_foldr_insertKey]
      simp only [List.mem_map, turnedRecords, List.mem_filter, Bool.and_eq_true, decide_eq_true_eq, Work.begin,
        List.not_mem_nil, or_false]
      constructor
      · rintro ⟨r, ⟨mem, rfl, fresh⟩, rfl⟩
        exact ⟨r, mem, rfl, rfl, fresh⟩
      · rintro ⟨r, mem, rfl, origin, fresh⟩
        exact ⟨r, ⟨mem, origin, fresh⟩, rfl⟩
    · rw [Work.markStale_changed]
      exact KeysAscend.insertAll .nil _
    · exact (congrArg (s.origin.holdIn ++ ·) signals).trans (List.append_nil _)
  · have taken := rosterEventPresent_of_claim claim
    refine ⟨_, _, exec_yields rfl taken, ?_, rfl, State.closeClaim_begin .., State.closeClaim_begin_cft ..,
      State.closeClaim_begin_groups ..⟩
    rw [recordsOf, List.filter_filter]
    simp only [Bool.decide_and, Bool.and_comm]

end Sys2Proof.Machine

/-!
PROOFS. The work of a frame's claim, step by step: the records that a new run tag, a sweep or an eviction removes (R19,
R22, R117, R123), and what is stored in the roster (R115).
-/
namespace Sys2Proof.Machine

/-! ### Tables in which a key has one record -/

/-- No two records have the same key. -/
abbrev KeysDistinct (cft : List Record) : Prop := (cft.map (·.key)).Nodup

theorem KeysDistinct.filter {cft : List Record} (h : KeysDistinct cft) (p : Record → Bool) : KeysDistinct (cft.filter p) :=
  h.sublist (List.filter_sublist.map _)

theorem KeysDistinct.findRecord_mem {cft : List Record} (h : KeysDistinct cft) {r : Record} (hr : r ∈ cft) :
    findRecord cft r.key = some r := by
  induction cft with
  | nil => cases hr
  | cons x l ih =>
    obtain ⟨fresh, distinct⟩ := List.nodup_cons.1 h
    obtain rfl | hr := List.mem_cons.1 hr
    · simp [findRecord]
    · have other : x.key ≠ r.key := fun same => fresh (List.mem_map.2 ⟨r, hr, same.symm⟩)
      rw [findRecord, List.find?_cons_of_neg (by simpa using other)]
      exact ih distinct hr

/-- Records chosen by a test leave those that fail it. -/
theorem KeysDistinct.filter_keys {cft : List Record} (h : KeysDistinct cft) (p : Record → Bool) :
    cft.filter (fun r => decide (r.key ∉ (cft.filter p).map (·.key))) = cft.filter (fun r => !p r) := by
  refine List.filter_congr fun r hr => ?_
  have chosen : r.key ∈ (cft.filter p).map (·.key) ↔ p r = true := by
    constructor
    · intro mem
      obtain ⟨x, hx, same⟩ := List.mem_map.1 mem
      obtain ⟨hx, px⟩ := List.mem_filter.1 hx
      have found := h.findRecord_mem hx
      rw [same, h.findRecord_mem hr] at found
      cases found
      exact px
    · exact fun pr => List.mem_map_of_mem (List.mem_filter.2 ⟨hr, pr⟩)
  by_cases pr : p r = true
  · simp [chosen, pr]
  · simp [chosen, pr]

/-! ### The state of a claim's work -/

/-- What a claim's work has come to: its tables, its record notices, the records whose groups it touched, and its marks. -/
structure Work.Shows (w : Work) (te : TableEngine) (removed : List (Key × Report)) (changed inserted : List Key)
    (met : List Record) (refused dirty : Bool) : Prop where
  te : w.te = te
  removed : w.removed = removed
  changed : w.changed = changed
  inserted : w.inserted = inserted
  ascending : w.touched.Pairwise (· < ·)
  touched : ∀ g, g ∈ w.touched ↔ ∃ r ∈ met, r.kind = .supply ∧ r.group = g
  ended : w.ended = []
  refused : w.refused = refused
  dirty : w.dirty = dirty

/-- A RECORD-REMOVED notice of a record, with its key. -/
def removalOf (groups : List GroupEntry) (c : DeleteCause) (r : Record) : Key × Report :=
  (r.key, .recordRemoved (r.item groups) c)

/-- The work of a claim that has done nothing but delete records. -/
abbrev Work.Emptied (w : Work) (te : TableEngine) (removed : List (Key × Report)) (lost : List Record) : Prop :=
  w.Shows te removed [] [] lost false (!lost.isEmpty)

theorem Work.begin_emptied (te : TableEngine) : (Work.begin te).Emptied te [] [] :=
  ⟨rfl, rfl, rfl, rfl, .nil, fun g => by simp [Work.begin], rfl, rfl, rfl⟩

section Emptied

variable {w : Work} {te : TableEngine} {removed : List (Key × Report)} {lost : List Record}

theorem mem_touch_of_met {l : List Nat} {met : List Record} {r : Record}
    (h : ∀ g, g ∈ l ↔ ∃ x ∈ met, x.kind = .supply ∧ x.group = g) (g : Nat) :
    g ∈ touch r l ↔ ∃ x ∈ r :: met, x.kind = .supply ∧ x.group = g := by
  rw [mem_touch, h, List.exists_mem_cons_iff]

theorem Work.Emptied.delete_absent (h : w.Emptied te removed lost) {k : Key} (absent : findRecord te.cft k = none)
    (c : DeleteCause) : (w.delete k c).Emptied te removed lost := by
  rwa [Work.delete_of_none (by rwa [h.te])]

theorem Work.Emptied.delete_held (h : w.Emptied te removed lost) {r : Record} (held : findRecord te.cft r.key = some r)
    (c : DeleteCause) : (w.delete r.key c).Emptied { te with cft := eraseRecord r.key te.cft }
      (removed ++ [removalOf te.groups c r]) (lost ++ [r]) := by
  obtain ⟨rfl, rfl, changed, inserted, ascending, touched, ended, refused, dirty⟩ := h
  rw [Work.delete_of_some held]
  refine ⟨rfl, rfl, ?_, ?_, touch_ascending r ascending, fun g => ?_, ended, refused, ?_⟩
  · rw [changed]
    rfl
  · rw [inserted]
    rfl
  · rw [mem_touch_of_met touched]
    simp only [List.mem_cons, List.mem_append, List.not_mem_nil, or_false]
    exact exists_congr fun x => and_congr_left' or_comm
  · simp

theorem Work.Emptied.deleteAll (l : List Record) (h : w.Emptied te removed lost) (distinct : KeysDistinct te.cft)
    (keys : KeysDistinct l) (mem : ∀ r ∈ l, r ∈ te.cft) (c : DeleteCause) : (w.deleteAll (l.map (·.key)) c).Emptied
      { te with cft := te.cft.filter (fun r => decide (r.key ∉ l.map (·.key))) }
      (removed ++ l.map (removalOf te.groups c)) (lost ++ l) := by
  induction l generalizing w te removed lost with
  | nil =>
    have all : te.cft.filter (fun r => decide (r.key ∉ ([] : List Record).map (·.key))) = te.cft :=
      List.filter_eq_self.2 fun r _ => by simp
    rw [all, List.append_nil, List.map_nil, List.map_nil, List.append_nil]
    exact h
  | cons r l ih =>
    obtain ⟨fresh, keys⟩ := List.nodup_cons.1 keys
    have first := Work.Emptied.delete_held h (distinct.findRecord_mem (mem r List.mem_cons_self)) c
    have later := ih first (KeysDistinct.filter distinct _) keys fun x hx => by
      refine List.mem_filter.2 ⟨mem x (List.mem_cons_of_mem _ hx), decide_eq_true fun same => ?_⟩
      exact fresh (List.mem_map.2 ⟨x, hx, same⟩)
    have cft : (eraseRecord r.key te.cft).filter (fun x => decide (x.key ∉ l.map (·.key))) =
        te.cft.filter (fun x => decide (x.key ∉ (r :: l).map (·.key))) := by
      rw [eraseRecord, List.filter_filter]
      refine List.filter_congr fun x _ => ?_
      rw [← Bool.decide_and]
      exact decide_eq_decide.2 (by rw [List.map_cons, List.mem_cons, not_or, and_comm])
    dsimp only at later
    rw [cft, List.append_assoc, List.append_assoc] at later
    exact later

/-- Deletes of the records that pass a test. -/
theorem Work.Emptied.deleteWhere (h : w.Emptied te removed lost) (distinct : KeysDistinct te.cft) (p : Record → Bool)
    (c : DeleteCause) : (w.deleteAll ((te.cft.filter p).map (·.key)) c).Emptied
      { te with cft := te.cft.filter (fun r => !p r) }
      (removed ++ (te.cft.filter p).map (removalOf te.groups c)) (lost ++ te.cft.filter p) := by
  have all := Work.Emptied.deleteAll (te.cft.filter p) h distinct (distinct.filter p)
    (fun r hr => List.mem_of_mem_filter hr) c
  rwa [distinct.filter_keys] at all

end Emptied

/-! ### The run-tag check (R117) -/

section TagCheck

variable {u : RosterUnit} {n : Nat} {tag : Word16}

/-- The sender's stored run tag is another one. -/
def RosterUnit.retags (u : RosterUnit) (n : Nat) (tag : Word16) : Prop :=
  ∃ old, (u.find n).bind (·.tag) = some old ∧ old ≠ tag

theorem tagCheck_of_retags (h : u.retags n tag) (w : Work) :
    tagCheck u n tag w = w.deleteAll ((recordsOf w.te.cft n).map (·.key)) .wipe := by
  obtain ⟨old, stored, other⟩ := h
  obtain ⟨e, found, htag⟩ := Option.bind_eq_some_iff.1 stored
  obtain ⟨station, state, heard, window, t, frames⟩ := e
  cases htag
  simp only [tagCheck, found, if_neg other]

theorem tagCheck_of_not (h : ¬u.retags n tag) (w : Work) : tagCheck u n tag w = w := by
  unfold tagCheck
  split
  next found =>
    refine if_pos ?_
    by_contra other
    exact h ⟨_, Option.bind_eq_some_iff.2 ⟨_, found, rfl⟩, other⟩
  next => rfl

/-- The records that the run-tag check leaves, and those that it wipes. -/
theorem tagCheck_emptied {s : State} {wiped : Bool} {gone rest : List Record} (distinct : KeysDistinct s.table.cft)
    (hwiped : wiped = true ↔ s.roster.retags n tag)
    (hgone : gone = if wiped then s.table.cft.filter (fun r => decide (r.key.origin = n)) else [])
    (hrest : rest = if wiped then s.table.cft.filter (fun r => decide (r.key.origin ≠ n)) else s.table.cft) :
    (tagCheck s.roster n tag (Work.begin s.table)).Emptied { s.table with cft := rest }
      (gone.map (removalOf s.table.groups .wipe)) gone := by
  cases wiped with
  | true =>
    rw [tagCheck_of_retags (hwiped.1 rfl), hgone, hrest]
    have wipe := Work.Emptied.deleteWhere (Work.begin_emptied s.table) distinct (fun r => decide (r.key.origin = n)) .wipe
    simp only [List.nil_append, ← decide_not] at wipe
    exact wipe
  | false =>
    rw [tagCheck_of_not (mt hwiped.2 nofun), hgone, hrest]
    exact Work.begin_emptied s.table

/-! ### What is stored in the roster (R115) -/

theorem RosterUnit.storeTag_of_known {e : RosterEntry} (known : u.find n = some e) (tag : Word16) :
    u.storeTag n tag = u.put { e with tag := some tag } := by
  simp only [RosterUnit.storeTag, known]

theorem RosterUnit.storeTag_of_unknown (unknown : u.find n = none) (tag : Word16) : u.storeTag n tag = u := by
  simp only [RosterUnit.storeTag, unknown]

theorem RosterUnit.storeTag_events (u : RosterUnit) (n : Nat) (tag : Word16) : (u.storeTag n tag).events = u.events := by
  unfold RosterUnit.storeTag
  split <;> rfl

theorem RosterUnit.find_storeTag {e : RosterEntry} (known : u.find n = some e) (tag : Word16) :
    (u.storeTag n tag).find n = some { e with tag := some tag } := by
  have station : e.station = n := RosterUnit.find_station known
  rw [RosterUnit.storeTag_of_known known]
  exact (RosterUnit.find_put_of_some known (e' := { e with tag := some tag }) station n).trans (if_pos rfl)

theorem RosterUnit.find_storeTag_of_ne (u : RosterUnit) (tag : Word16) {m : Nat} (other : m ≠ n) :
    (u.storeTag n tag).find m = u.find m := by
  cases known : u.find n with
  | none => rw [RosterUnit.storeTag_of_unknown known]
  | some e =>
    have station : e.station = n := RosterUnit.find_station known
    rw [RosterUnit.storeTag_of_known known]
    exact (RosterUnit.find_put_of_some known (e' := { e with tag := some tag }) station m).trans
      (if_neg other)

end TagCheck

end Sys2Proof.Machine

/-!
PROOFS. An announcement applied to the tables (R16 to R18, R118, R119, R124), and the claim of a RECORD.
-/
namespace Sys2Proof.Machine

/-! ### Versions (R118) -/

theorem version_distance (i h : Version) : (i - h).toNat = (i.toNat + 256 - h.toNat) % 256 := by
  rw [BitVec.toNat_sub]
  have := h.isLt
  congr 1
  omega

/-- The judgement by the distance modulo 256 (R118). -/
theorem judgeVersion_eq (i h : Version) : judgeVersion i h =
    if (i.toNat + 256 - h.toNat) % 256 = 0 then .same
    else if (i.toNat + 256 - h.toNat) % 256 ≤ 127 then .newer else .older := by
  have equal : i = h ↔ (i.toNat + 256 - h.toNat) % 256 = 0 := by
    rw [← BitVec.toNat_inj]
    have := i.isLt
    have := h.isLt
    omega
  rw [judgeVersion, version_distance]
  exact if_congr equal rfl rfl

theorem judgeVersion_same (i h : Version) : judgeVersion i h = .same ↔ (i.toNat + 256 - h.toNat) % 256 = 0 := by
  rw [judgeVersion_eq]
  repeat' split
  all_goals simp_all

theorem judgeVersion_newer (i h : Version) : judgeVersion i h = .newer ↔
    1 ≤ (i.toNat + 256 - h.toNat) % 256 ∧ (i.toNat + 256 - h.toNat) % 256 ≤ 127 := by
  rw [judgeVersion_eq]
  repeat' split
  all_goals
    simp only [reduceCtorEq, false_iff, true_iff]
    omega

theorem judgeVersion_older (i h : Version) : judgeVersion i h = .older ↔ 128 ≤ (i.toNat + 256 - h.toNat) % 256 := by
  rw [judgeVersion_eq]
  repeat' split
  all_goals
    simp only [reduceCtorEq, false_iff, true_iff]
    omega

/-! ### An announcement's outcomes -/

/-- A record refreshed (R18). -/
def Record.refreshed (r : Record) (now : Nat) : Record := { r with lastHeard := some now, freshness := .fresh }

section Apply

variable {w : Work} {te : TableEngine} {removed : List (Key × Report)} {lost : List Record} (h : w.Emptied te removed lost)
  {s : State} {n : Nat} {a : Announcement}
include h

section Absent

variable (absent : findRecord te.cft ⟨n, a.point⟩ = none)
include absent

/-- CLEARED of an absent key is moot (R119). -/
theorem Work.Emptied.apply_moot (cleared : a.state = .cleared) : (w.apply s n a).Emptied
    { te with moot := te.moot + 1 } removed lost := by
  obtain ⟨rfl, removed, changed, inserted, ascending, touched, ended, refused, dirty⟩ := h
  simp only [Work.apply, absent, cleared]
  exact ⟨rfl, removed, changed, inserted, ascending, touched, ended, refused, dirty⟩

variable (opened : a.state = .opened)
include opened

theorem Work.apply_insertPeer : w.apply s n a = w.insertPeer s.own (a.inserted s n) := by
  rw [← h.te] at absent
  simp only [Work.apply, absent, opened]

/-- OPEN of an absent key is placed where the peer part has room (R16). -/
theorem Work.Emptied.apply_placed (room : peerCount s.own te.cft < 959) : (w.apply s n a).Shows
    { te with cft := insertRecord (a.inserted s n) te.cft } removed [⟨n, a.point⟩] [⟨n, a.point⟩]
    (a.inserted s n :: lost) false true := by
  rw [Work.apply_insertPeer h absent opened]
  obtain ⟨rfl, removed, changed, inserted, ascending, touched, ended, refused, dirty⟩ := h
  rw [Work.insertPeer, if_pos (show _ < Config.peerPlaces from room)]
  refine ⟨rfl, removed, ?_, ?_, touch_ascending _ ascending, mem_touch_of_met touched, ended, refused, rfl⟩
  · rw [Work.place, changed]
    rfl
  · rw [Work.place, inserted]
    rfl

variable (full : 959 ≤ peerCount s.own te.cft)
include full

/-- OPEN of an absent key evicts where the peer part is full (R22). -/
theorem Work.Emptied.apply_evicts (distinct : KeysDistinct te.cft) {v : Record}
    (choice : evictionChoice s.own te (severityOf a.conds) = some v) : (w.apply s n a).Shows
      { te with cft := insertRecord (a.inserted s n) (eraseRecord v.key te.cft), evictions := te.evictions + 1 }
      (removed ++ [removalOf te.groups .eviction v]) [⟨n, a.point⟩] [⟨n, a.point⟩] (a.inserted s n :: (lost ++ [v]))
      false true := by
  have held := distinct.findRecord_mem (evictionChoice_peer choice).1
  obtain ⟨te', removed', changed, inserted, ascending, touched, ended, refused, dirty⟩ :=
    Work.Emptied.delete_held h held .eviction
  have noRoom : ¬peerCount s.own te.cft < Config.peerPlaces := Nat.not_lt.2 full
  rw [← h.te] at choice noRoom
  rw [Work.apply_insertPeer h absent opened, Work.insertPeer, if_neg noRoom]
  change evictionChoice s.own w.te (a.inserted s n).severity = some v at choice
  rw [choice]
  dsimp only
  refine ⟨?_, removed', ?_, ?_, touch_ascending _ ascending, mem_touch_of_met touched, ended, refused, rfl⟩
  · rw [Work.place]
    dsimp only
    rw [te']
  · rw [Work.place]
    dsimp only
    rw [changed]
    rfl
  · rw [Work.place]
    dsimp only
    rw [inserted]
    rfl

/-- OPEN of an absent key is refused where the peer part is full and nothing may be evicted (R23). -/
theorem Work.Emptied.apply_refused (choice : evictionChoice s.own te (severityOf a.conds) = none) :
    (w.apply s n a).Shows { te with refusedInserts := te.refusedInserts + 1, tableFull := true } removed [] [] lost true
      (!lost.isEmpty) := by
  have noRoom : ¬peerCount s.own te.cft < Config.peerPlaces := Nat.not_lt.2 full
  rw [Work.apply_insertPeer h absent opened]
  obtain ⟨rfl, removed, changed, inserted, ascending, touched, ended, refused, dirty⟩ := h
  rw [Work.insertPeer, if_neg noRoom]
  change evictionChoice s.own w.te (a.inserted s n).severity = none at choice
  rw [choice]
  exact ⟨rfl, removed, changed, inserted, ascending, touched, ended, rfl, dirty⟩

end Absent

section Held

variable {r : Record} (held : findRecord te.cft ⟨n, a.point⟩ = some r)
include held

/-- A newer version replaces the held record and refreshes it (R17, R18). -/
theorem Work.Emptied.apply_newer (newer : judgeVersion a.version r.version = .newer) : (w.apply s n a).Shows
    { te with cft := putRecord ((a.replaced s r).refreshed s.nowSec) (putRecord (a.replaced s r) te.cft) } removed
    [⟨n, a.point⟩] [] (a.replaced s r :: r :: lost) false true := by
  obtain ⟨rfl, removed, changed, inserted, ascending, touched, ended, refused, dirty⟩ := h
  obtain ⟨key, -⟩ := findRecord_some held
  simp only [Work.apply, held, newer]
  refine ⟨rfl, removed, ?_, inserted, touch_ascending _ (touch_ascending _ ascending),
    mem_touch_of_met (mem_touch_of_met touched), ended, refused, rfl⟩
  have once : insertKey (a.replaced s r).key w.changed = [⟨n, a.point⟩] := by
    rw [changed, Announcement.replaced_key, key]
    rfl
  have again : insertKey (a.replaced s r).key [⟨n, a.point⟩] = [⟨n, a.point⟩] := by
    rw [Announcement.replaced_key, key]
    simp [insertKey, Key.lt]
  simp only [Work.refresh, Work.replace, once, again, ite_self]

/-- The same version refreshes the held record (R18). -/
theorem Work.Emptied.apply_same (same : judgeVersion a.version r.version = .same) : (w.apply s n a).Shows
    { te with cft := putRecord (r.refreshed s.nowSec) te.cft } removed
    (if r.freshness = .stale then [⟨n, a.point⟩] else []) [] lost false true := by
  obtain ⟨rfl, removed, changed, inserted, ascending, touched, ended, refused, dirty⟩ := h
  obtain ⟨key, -⟩ := findRecord_some held
  simp only [Work.apply, held, same]
  refine ⟨rfl, removed, ?_, inserted, ascending, touched, ended, refused, rfl⟩
  rw [Work.refresh, changed, key]
  rfl

/-- An older version is counted (R119). -/
theorem Work.Emptied.apply_older (older : judgeVersion a.version r.version = .older) : (w.apply s n a).Emptied
    { te with old := te.old + 1 } removed lost := by
  obtain ⟨rfl, removed, changed, inserted, ascending, touched, ended, refused, dirty⟩ := h
  simp only [Work.apply, held, older]
  exact ⟨rfl, removed, changed, inserted, ascending, touched, ended, refused, dirty⟩

end Held

end Apply

/-! ### Lookups after an announcement -/

section Lookups

variable {cft : List Record} {s : State} {n : Nat} {a : Announcement} {r : Record}

theorem findRecord_inserted (absent : findRecord cft ⟨n, a.point⟩ = none) :
    findRecord (insertRecord (a.inserted s n) cft) ⟨n, a.point⟩ = some (a.inserted s n) :=
  findRecord_insert (a.inserted s n) cft absent

theorem findRecord_inserted_of_ne {j : Key} (other : j ≠ ⟨n, a.point⟩) :
    findRecord (insertRecord (a.inserted s n) cft) j = findRecord cft j :=
  findRecord_insert_of_ne (a.inserted s n) cft j other

/-- The record that stands after a newer version. -/
def Announcement.renewed (a : Announcement) (s : State) (r : Record) : Record := (a.replaced s r).refreshed s.nowSec

theorem findRecord_renewed (held : findRecord cft r.key = some r) :
    findRecord (putRecord (a.renewed s r) (putRecord (a.replaced s r) cft)) r.key = some (a.renewed s r) := by
  refine findRecord_put (a.renewed s r) _ ?_
  have there := findRecord_put (a.replaced s r) cft (Option.isSome_iff_exists.2 ⟨r, held⟩)
  exact Option.isSome_iff_exists.2 ⟨_, there⟩

theorem findRecord_renewed_of_ne {j : Key} (other : j ≠ r.key) :
    findRecord (putRecord (a.renewed s r) (putRecord (a.replaced s r) cft)) j = findRecord cft j :=
  (findRecord_put_of_ne (a.renewed s r) _ j other).trans (findRecord_put_of_ne (a.replaced s r) cft j other)

theorem findRecord_refreshed (held : findRecord cft r.key = some r) :
    findRecord (putRecord (r.refreshed s.nowSec) cft) r.key = some (r.refreshed s.nowSec) :=
  findRecord_put (r.refreshed s.nowSec) cft (Option.isSome_iff_exists.2 ⟨r, held⟩)

theorem findRecord_refreshed_of_ne {j : Key} (other : j ≠ r.key) :
    findRecord (putRecord (r.refreshed s.nowSec) cft) j = findRecord cft j :=
  findRecord_put_of_ne (r.refreshed s.nowSec) cft j other

end Lookups

/-! ### The claim of a RECORD -/

/-- The state as the claim of a frame leaves its other blocks, with a roster. -/
def State.frameTaken (s : State) (u : RosterUnit) : State :=
  { s with rx := { s.rx with queue := s.rx.queue.drop 1 }, roster := u }

theorem recordFrame_of_read {s : State} {n : Nat} {b : List Byte} {f : RecordBody}
    (claim : s.nextClaim = some (.frame ⟨n, .record, b⟩)) (read : readRecord b = some f) : recordFrame s =
      (s.frameTaken (s.roster.storeTag n f.tag)).closeClaim
        ((tagCheck s.roster n f.tag (Work.begin s.table)).apply s n f.ann) [] := by
  simp only [recordFrame, claim, read]
  rfl

end Sys2Proof.Machine

/-!
PROOFS. The claim of a RECORD: what its work shows for each case of the key, with room and with the table full (R16 to
R18, R21 to R23, R117 to R120).
-/
namespace Sys2Proof.Machine

section Record

variable {w : Work} {te : TableEngine} {removed : List (Key × Report)} {lost : List Record} (h : w.Emptied te removed lost)
  {s : State} {n : Nat} {a : Announcement}

include h in
/-- Whatever an announcement comes to, its work removes no entry and keeps its touched groups in order. -/
theorem Work.Emptied.apply_shows (distinct : KeysDistinct te.cft) : ∃ te' removed' changed inserted met refused dirty,
    (w.apply s n a).Shows te' removed' changed inserted met refused dirty := by
  cases held : findRecord te.cft ⟨n, a.point⟩ with
  | none =>
    cases st : a.state with
    | cleared => exact ⟨_, _, _, _, _, _, _, h.apply_moot held st⟩
    | opened =>
      rcases Nat.lt_or_ge (peerCount s.own te.cft) 959 with room | full
      · exact ⟨_, _, _, _, _, _, _, h.apply_placed held st room⟩
      · cases choice : evictionChoice s.own te (severityOf a.conds) with
        | none => exact ⟨_, _, _, _, _, _, _, h.apply_refused held st full choice⟩
        | some v => exact ⟨_, _, _, _, _, _, _, h.apply_evicts held st full distinct choice⟩
  | some r =>
    cases version : judgeVersion a.version r.version with
    | newer => exact ⟨_, _, _, _, _, _, _, h.apply_newer held version⟩
    | same => exact ⟨_, _, _, _, _, _, _, h.apply_same held version⟩
    | older => exact ⟨_, _, _, _, _, _, _, h.apply_older held version⟩

theorem RosterUnit.storeTag_frame (u : RosterUnit) (n : Nat) (tag : Word16) :
    u.storeTag n tag = { u with entries := (u.storeTag n tag).entries } := by
  unfold RosterUnit.storeTag
  split <;> rfl

/-- The record that an OPEN announcement inserts (R16, R124). -/
theorem Announcement.inserted_opened (opened : a.state = .opened) : a.inserted s n =
    { key := ⟨n, a.point⟩, kind := a.kind, conds := a.conds, state := .opened, flapping := a.flapping
      group := a.group, parent := a.parent, version := a.version, raisedAt := s.raisedAt a.age
      occurrences := a.occurrences.getD 1, ackMark := a.ack, lastHeard := some s.nowSec, freshness := .fresh
      clearedAt := none } := by
  simp only [Announcement.inserted, opened]
  rfl

/-- The record that a newer version leaves (R17, R18). -/
theorem Announcement.renewed_eq (r : Record) : a.renewed s r =
    { key := r.key, kind := a.kind, conds := a.conds, state := a.state, flapping := a.flapping
      group := a.group, parent := a.parent, version := a.version, raisedAt := s.raisedAt a.age
      occurrences := a.occurrences.getD r.occurrences, ackMark := a.ack, lastHeard := some s.nowSec
      freshness := .fresh, clearedAt := if a.state = .cleared then some s.nowSec else none } := rfl

theorem isEmpty_false_iff (l : List Record) : (!l.isEmpty) = true ↔ l ≠ [] := by
  cases l <;> simp

/-- What a RECORD's work shows where it needs no eviction: the other keys, its counts, its notices and its groups. -/
structure RecordWork (s : State) (a : Announcement) (k : Key) (gone rest : List Record) (w : Work) : Prop where
  others : ∀ j, j ≠ k → findRecord w.te.cft j = findRecord rest j
  tables : w.te = { s.table with cft := w.te.cft, moot := w.te.moot, old := w.te.old }
  refused : w.refused = false
  dirty : w.dirty = true ↔ gone ≠ [] ∨ (findRecord rest k = none ∧ a.state = .opened) ∨
    ∃ r, findRecord rest k = some r ∧ judgeVersion a.version r.version ≠ .older
  removed : w.removed = gone.map (removalOf s.table.groups .wipe)
  touched : ∀ g, g ∈ w.touched ↔ (∃ r ∈ gone, r.kind = .supply ∧ r.group = g) ∨
    (a.kind = .supply ∧ a.group = g ∧ findRecord rest k = none ∧ a.state = .opened) ∨
    ∃ r, findRecord rest k = some r ∧ judgeVersion a.version r.version = .newer ∧
      ((a.kind = .supply ∧ a.group = g) ∨ (r.kind = .supply ∧ r.group = g))

theorem recordWork_of_room {gone rest : List Record}
    (h : w.Emptied { s.table with cft := rest } (gone.map (removalOf s.table.groups .wipe)) gone)
    (room : findRecord rest ⟨n, a.point⟩ = none → a.state = .opened → peerCount s.own rest < 959) :
    RecordWork s a ⟨n, a.point⟩ gone rest (w.apply s n a) := by
  cases held : findRecord rest ⟨n, a.point⟩ with
  | none =>
    cases st : a.state with
    | cleared =>
      have shows := h.apply_moot (s := s) held st
      refine ⟨fun j _ => by rw [shows.te], by rw [shows.te], shows.refused, ?_, shows.removed, fun g => ?_⟩
      · rw [shows.dirty, isEmpty_false_iff]
        simp [held, st]
      · rw [shows.touched]
        simp [held, st]
    | opened =>
      have shows := h.apply_placed held st (room held st)
      refine ⟨fun j hj => ?_, by rw [shows.te], shows.refused, ?_, shows.removed, fun g => ?_⟩
      · rw [shows.te]
        exact findRecord_inserted_of_ne hj
      · rw [shows.dirty]
        simp [held, st]
      · rw [shows.touched, List.exists_mem_cons_iff, or_comm]
        simp [held, st, Announcement.inserted]
  | some r =>
    obtain ⟨key, -⟩ := findRecord_some held
    cases version : judgeVersion a.version r.version with
    | newer =>
      have shows := h.apply_newer (s := s) held version
      refine ⟨fun j hj => ?_, by rw [shows.te], shows.refused, ?_, shows.removed, fun g => ?_⟩
      · rw [shows.te]
        exact findRecord_renewed_of_ne (key ▸ hj)
      · rw [shows.dirty]
        simp [held, version]
      · rw [shows.touched, List.exists_mem_cons_iff, List.exists_mem_cons_iff, ← or_assoc, or_comm]
        simp [held, version, Announcement.replaced]
    | same =>
      have shows := h.apply_same (s := s) held version
      refine ⟨fun j hj => ?_, by rw [shows.te], shows.refused, ?_, shows.removed, fun g => ?_⟩
      · rw [shows.te]
        exact findRecord_refreshed_of_ne (key ▸ hj)
      · rw [shows.dirty]
        simp [held, version]
      · rw [shows.touched]
        simp [held, version]
    | older =>
      have shows := h.apply_older (s := s) held version
      refine ⟨fun j _ => by rw [shows.te], by rw [shows.te], shows.refused, ?_, shows.removed, fun g => ?_⟩
      · rw [shows.dirty, isEmpty_false_iff]
        simp [held, version]
      · rw [shows.touched]
        simp [held, version]

end Record

/-- Settles O29: the wipe that the run tag asks for, then the announcement by its key and its version. -/
theorem recordFrameIsApplied : Obligations.RecordFrameIsApplied := by
  refine ⟨fun i h => ⟨judgeVersion_newer i h, judgeVersion_same i h, judgeVersion_older i h⟩,
    fun n b f s k wiped gone rest claim read hk distinct hwiped hgone hrest => ?_, fun age s => rfl⟩
  have retags : wiped = true ↔ s.roster.retags n f.tag := by rw [hwiped, decide_eq_true_iff]; rfl
  have h := tagCheck_emptied distinct retags hgone hrest
  have distinct' : KeysDistinct rest := by
    rw [hrest]
    split
    · exact KeysDistinct.filter distinct _
    · exact distinct
  obtain ⟨te', removed', changed', inserted', met', refused', dirty', shown⟩ :=
    Work.Emptied.apply_shows (s := s) (n := n) (a := f.ann) h distinct'
  subst hk
  refine ⟨_, _, exec_yields rfl (recordFrame_of_read claim read), ?_, fun e known => RosterUnit.find_storeTag known f.tag,
    fun m other => RosterUnit.find_storeTag_of_ne _ _ other, State.closeClaim_cft .., shown.ended, shown.ascending,
    fun room => ?_, fun absent => ⟨fun cleared => ?_, fun opened room => ?_⟩, fun r held => ?_⟩
  · exact congrArg (fun u => (s.frameTaken u).closeClaim _ []) (s.roster.storeTag_frame n f.tag)
  · obtain ⟨others, tables, refused, dirty, removed, touched⟩ := recordWork_of_room h room
    exact ⟨others, tables, refused, dirty, removed, touched⟩
  · have shows := h.apply_moot (s := s) absent cleared
    refine ⟨shows.changed, shows.inserted, ?_, ?_, ?_⟩
    all_goals rw [shows.te]
    exact absent
  · have shows := h.apply_placed absent opened room
    refine ⟨shows.changed, shows.inserted, ?_, ?_, ?_⟩
    all_goals rw [shows.te]
    rw [← Announcement.inserted_opened opened]
    exact findRecord_inserted absent
  · obtain ⟨key, -⟩ := findRecord_some held
    have held' : findRecord rest r.key = some r := by rwa [key]
    have kept : rest = s.table.cft := by
      rw [hrest]
      cases wiped with
      | false => rfl
      | true =>
        rw [hrest] at held
        obtain ⟨-, mem⟩ := findRecord_some held
        have other := of_decide_eq_true (List.mem_filter.1 mem).2
        exact absurd (congrArg Key.origin key) other
    cases version : judgeVersion f.ann.version r.version with
    | newer =>
      have shows := h.apply_newer (s := s) held version
      refine ⟨shows.inserted, by rw [shows.te], fun _ => ⟨by rw [shows.te], shows.changed, ?_⟩, nofun, nofun⟩
      rw [shows.te, ← key]
      exact findRecord_renewed held'
    | same =>
      have shows := h.apply_same (s := s) held version
      refine ⟨shows.inserted, by rw [shows.te], nofun, fun _ => ⟨by rw [shows.te], shows.changed, ?_⟩, nofun⟩
      rw [shows.te, ← key]
      exact findRecord_refreshed held'
    | older =>
      have shows := h.apply_older (s := s) held version
      exact ⟨shows.inserted, by rw [shows.te], nofun, nofun,
        fun _ => ⟨by rw [shows.te], shows.changed, by rw [shows.te]; exact kept⟩⟩

end Sys2Proof.Machine

/-!
PROOFS. The eviction order (R21), and a RECORD that inserts into a full table (R22 to R24).
-/
namespace Sys2Proof.Machine

/-! ### The least record of a list -/

theorem leastRecord_eq_none {before : Record → Record → Bool} {l : List Record} : leastRecord before l = none ↔ l = [] := by
  cases l with
  | nil => simp [leastRecord]
  | cons x l =>
    simp only [leastRecord, reduceCtorEq, iff_false]
    repeat' split
    all_goals exact nofun

/-- The key stands at or ahead of the other one's place (R2). -/
def Key.le (a b : Key) : Prop := a.origin < b.origin ∨ (a.origin = b.origin ∧ a.point ≤ b.point)

theorem Key.le_refl (a : Key) : a.le a := .inr ⟨rfl, Nat.le_refl _⟩

theorem Key.le_of_lt {a b : Key} (h : a.lt b = true) : a.le b := by
  rw [Key.lt_iff] at h
  exact h.imp_right fun ⟨origin, point⟩ => ⟨origin, Nat.le_of_lt point⟩

/-- The least record by a measure: no record is less, and none of an equal measure stands ahead in key order. -/
theorem leastRecord_least {α : Type} [LinearOrder α] (f : Record → α) {before : Record → Record → Bool}
    (measured : ∀ a b, before a b = true ↔ f a < f b) {l : List Record} {v : Record} (h : leastRecord before l = some v)
    {r : Record} (hr : r ∈ l) : f v < f r ∨ (f v = f r ∧ (KeysAscend (l.map (·.key)) → v.key.le r.key)) := by
  induction l generalizing v with
  | nil => cases hr
  | cons x l ih =>
    have first : leastRecord before l = none → f x < f r ∨ (f x = f r ∧ (KeysAscend ((x :: l).map (·.key)) → x.key.le r.key)) := by
      intro alone
      rw [leastRecord_eq_none] at alone
      subst alone
      cases List.mem_singleton.1 hr
      exact .inr ⟨rfl, fun _ => Key.le_refl _⟩
    unfold leastRecord at h
    cases hl : leastRecord before l with
    | none =>
      rw [hl] at h
      cases h
      exact first hl
    | some m =>
      rw [hl] at h
      dsimp only at h
      by_cases less : before m x = true
      · rw [if_pos less] at h
        cases h
        obtain rfl | hr := List.mem_cons.1 hr
        · exact .inl ((measured ..).1 less)
        · exact (ih hl hr).imp_right fun ⟨eq, key⟩ => ⟨eq, fun order => key (List.pairwise_cons.1 order).2⟩
      · rw [if_neg less] at h
        cases h
        have le : f x ≤ f m := not_lt.1 fun lt => less ((measured ..).2 lt)
        obtain rfl | hr := List.mem_cons.1 hr
        · exact .inr ⟨rfl, fun _ => Key.le_refl _⟩
        · have ahead : KeysAscend ((x :: l).map (·.key)) → x.key.le r.key := fun order =>
            Key.le_of_lt ((List.pairwise_cons.1 order).1 _ (List.mem_map_of_mem hr))
          obtain lt | ⟨eq, -⟩ := ih hl hr
          · exact .inl (le.trans_lt lt)
          · exact (le.trans_eq eq).lt_or_eq.imp_right fun same => ⟨same, ahead⟩

theorem earlier_iff (f : Record → Option Nat) (a b : Record) : earlier f a b = true ↔ (f a).getD 0 < (f b).getD 0 :=
  decide_eq_true_iff

/-- Severity, and between equals the time last heard (R21). -/
def Record.standing (r : Record) : Nat ×ₗ Nat := toLex (r.severity, r.lastHeard.getD 0)

theorem lesser_iff (a b : Record) : lesser a b = true ↔ a.standing < b.standing := by
  simp only [lesser, Record.standing, Bool.or_eq_true, Bool.and_eq_true, decide_eq_true_eq, earlier_iff,
    Prod.Lex.toLex_lt_toLex]

/-! ### The eviction order (R21) -/

/-- The peer records that pass a test of the eviction order. -/
def evictable (own : Nat) (te : TableEngine) (p : Record → Bool) : List Record :=
  (te.cft.filter (fun r => decide (r.key.origin ≠ own))).filter p

/-- A FRESH record of a view state that is less severe than the one that comes (R21). -/
def isLive (te : TableEngine) (severity : Nat) (v : ViewState) (r : Record) : Bool :=
  decide (r.freshness = .fresh) && decide (r.view te.groups = v) && decide (r.severity < severity)

section Evictable

variable {own severity : Nat} {te : TableEngine} {p : Record → Bool} {v r : Record}

theorem mem_evictable : r ∈ evictable own te p ↔ (r ∈ te.cft ∧ r.key.origin ≠ own) ∧ p r = true := by
  rw [evictable, List.mem_filter, List.mem_filter, decide_eq_true_iff]

theorem isLive_iff {view : ViewState} : isLive te severity view r = true ↔
    r.freshness = .fresh ∧ r.view te.groups = view ∧ r.severity < severity := by
  simp [isLive, and_assoc]

theorem evictable_ascend (order : KeysAscend (te.cft.map (·.key))) : KeysAscend ((evictable own te p).map (·.key)) :=
  List.Pairwise.sublist (List.Sublist.map _ (List.Sublist.trans List.filter_sublist List.filter_sublist)) order

/-- The least of the records that pass a test, by a measure. -/
theorem leastEvictable_least {α : Type} [LinearOrder α] (f : Record → α) {before : Record → Record → Bool}
    (measured : ∀ a b, before a b = true ↔ f a < f b) (h : leastRecord before (evictable own te p) = some v)
    (hr : (r ∈ te.cft ∧ r.key.origin ≠ own) ∧ p r = true) :
    f v < f r ∨ (f v = f r ∧ (KeysAscend (te.cft.map (·.key)) → v.key.le r.key)) :=
  (leastRecord_least f measured h (mem_evictable.2 hr)).imp_right fun ⟨eq, key⟩ => ⟨eq, fun order =>
    key (evictable_ascend order)⟩

theorem standing_cases {lowest : Prop} (h : v.standing < r.standing ∨ (v.standing = r.standing ∧ lowest)) :
    v.severity < r.severity ∨ (v.severity = r.severity ∧ (v.lastHeard.getD 0 < r.lastHeard.getD 0 ∨
      (v.lastHeard.getD 0 = r.lastHeard.getD 0 ∧ lowest))) := by
  obtain less | ⟨same, key⟩ := h
  · rw [Record.standing, Record.standing, Prod.Lex.toLex_lt_toLex] at less
    exact less.imp_right fun ⟨eq, lt⟩ => ⟨eq, .inl lt⟩
  · obtain ⟨severity, heard⟩ := Prod.ext_iff.1 (toLex_inj.1 same)
    exact .inr ⟨severity, .inr ⟨heard, key⟩⟩

end Evictable

/-! ### The four steps, one after another -/

theorem orElse_eq_none_iff {α : Type} {a : Option α} {b : Unit → Option α} : a.orElse b = none ↔ a = none ∧ b () = none := by
  cases a <;> simp [Option.orElse]

section Steps

variable (own severity : Nat) (te : TableEngine)

/-- The peer records that are CLEARED. -/
def clearedPeers : List Record := evictable own te (fun r => decide (r.state = .cleared))

/-- The peer records that are STALE. -/
def stalePeers : List Record := evictable own te (fun r => decide (r.freshness = .stale))

/-- The FRESH peer records of a view state that are less severe than the one that comes. -/
def livePeers (v : ViewState) : List Record := evictable own te (isLive te severity v)

/-- Which step of the eviction order yields its record. -/
inductive EvictionStep (v : Record) : Prop
  | cleared (h : leastRecord (earlier (·.clearedAt)) (clearedPeers own te) = some v)
  | stale (none : clearedPeers own te = []) (h : leastRecord (earlier (·.lastHeard)) (stalePeers own te) = some v)
  | held (none : clearedPeers own te = []) (fresh : stalePeers own te = [])
    (h : leastRecord lesser (livePeers own severity te .held) = some v)
  | active (none : clearedPeers own te = []) (fresh : stalePeers own te = []) (unheld : livePeers own severity te .held = [])
    (h : leastRecord lesser (livePeers own severity te .active) = some v)

variable {own severity te}

theorem evictionChoice_step {v : Record} (h : evictionChoice own te severity = some v) : EvictionStep own severity te v := by
  change (leastRecord _ (clearedPeers own te)).orElse (fun _ => (leastRecord _ (stalePeers own te)).orElse fun _ =>
    (leastRecord _ (livePeers own severity te .held)).orElse fun _ =>
      leastRecord _ (livePeers own severity te .active)) = some v at h
  cases first : leastRecord (earlier (·.clearedAt)) (clearedPeers own te) with
  | some x => rw [first] at h; cases h; exact .cleared first
  | none =>
    rw [first] at h
    have none := leastRecord_eq_none.1 first
    cases second : leastRecord (earlier (·.lastHeard)) (stalePeers own te) with
    | some x => rw [second] at h; cases h; exact .stale none second
    | none =>
      rw [second] at h
      have fresh := leastRecord_eq_none.1 second
      cases third : leastRecord lesser (livePeers own severity te .held) with
      | some x => rw [third] at h; cases h; exact .held none fresh third
      | none =>
        rw [third] at h
        exact .active none fresh (leastRecord_eq_none.1 third) h

theorem evictionChoice_eq_none : evictionChoice own te severity = none ↔ clearedPeers own te = [] ∧ stalePeers own te = [] ∧
    livePeers own severity te .held = [] ∧ livePeers own severity te .active = [] := by
  change (leastRecord _ (clearedPeers own te)).orElse (fun _ => (leastRecord _ (stalePeers own te)).orElse fun _ =>
    (leastRecord _ (livePeers own severity te .held)).orElse fun _ =>
      leastRecord _ (livePeers own severity te .active)) = none ↔ _
  simp only [orElse_eq_none_iff, leastRecord_eq_none]

end Steps

/-! ### A RECORD that inserts into a full table (R22 to R24) -/

section Full

variable {s : State} {n : Nat} {a : Announcement}

/-- The records that stand after an eviction (R22). -/
theorem findRecord_evicted {cft : List Record} (absent : findRecord cft ⟨n, a.point⟩ = none) {v : Record} (hv : v ∈ cft) :
    findRecord (insertRecord (a.inserted s n) (eraseRecord v.key cft)) v.key = none ∧
      findRecord (insertRecord (a.inserted s n) (eraseRecord v.key cft)) ⟨n, a.point⟩ = some (a.inserted s n) ∧
      ∀ j, j ≠ ⟨n, a.point⟩ → j ≠ v.key →
        findRecord (insertRecord (a.inserted s n) (eraseRecord v.key cft)) j = findRecord cft j := by
  have other : v.key ≠ ⟨n, a.point⟩ := findRecord_eq_none.1 absent v hv
  refine ⟨?_, findRecord_inserted ?_, fun j hj hv => ?_⟩
  · rw [findRecord_inserted_of_ne other, findRecord_erase, if_pos rfl]
  · rw [findRecord_erase, absent, ite_self]
  · rw [findRecord_inserted_of_ne hj, findRecord_erase, if_neg hv]

/-- A refused insert leaves TABLE-FULL set and raised: the peer part is still full (R23, R24). -/
theorem refused_close {u : State} {w : Work} (refused : w.refused = true) (set : w.te.tableFull = true)
    (full : 959 ≤ peerCount u.own w.te.cft) : (u.closeClaim w []).table.tableFull = true ∧
      ⟨.tableEngine, .tableFull, true⟩ ∈ (u.closeClaim w []).origin.stationIn := by
  refine ⟨(w.close_tableFull u).trans ?_, List.mem_append_right _ ?_⟩
  · rw [set, decide_eq_true (show 927 < peerCount u.own w.te.cft by omega)]
    rfl
  · rw [Work.close_reports, refused]
    simp

end Full

/-- Settles O30: the eviction or the refusal, then the eviction order step by step. -/
theorem fullTableEvictsOrRefuses : Obligations.FullTableEvictsOrRefuses := by
  refine ⟨fun n b f s k wiped gone rest claim read hk distinct hwiped hgone hrest absent opened full => ?_,
    fun own severity te peer cleared stale live lowest hpeer hcleared hstale hlive hlowest => ?_⟩
  · have retags : wiped = true ↔ s.roster.retags n f.tag := by rw [hwiped, decide_eq_true_iff]; rfl
    have h := tagCheck_emptied distinct retags hgone hrest
    have distinct' : KeysDistinct rest := by
      rw [hrest]
      split
      · exact KeysDistinct.filter distinct _
      · exact distinct
    obtain ⟨te', removed', changed', inserted', met', refused', dirty', shown⟩ :=
      Work.Emptied.apply_shows (s := s) (n := n) (a := f.ann) h distinct'
    subst hk
    refine ⟨_, _, exec_yields rfl (recordFrame_of_read claim read), ?_, fun e known => RosterUnit.find_storeTag known f.tag,
      fun m other => RosterUnit.find_storeTag_of_ne _ _ other, State.closeClaim_cft .., shown.ended, shown.ascending,
      fun v choice => ?_, fun choice => ?_⟩
    · exact congrArg (fun u => (s.frameTaken u).closeClaim _ []) (s.roster.storeTag_frame n f.tag)
    · have shows := h.apply_evicts (s := s) absent opened full distinct' choice
      obtain ⟨gone', stands, others⟩ := findRecord_evicted (s := s) (a := f.ann) absent (evictionChoice_peer choice).1
      rw [← Announcement.inserted_opened opened]
      refine ⟨?_, ?_, fun j hj hv => ?_, by rw [shows.te], shows.dirty, shows.refused, shows.changed, shows.inserted,
        shows.removed, fun g => ?_⟩
      · rw [shows.te]
        exact gone'
      · rw [shows.te]
        exact stands
      · rw [shows.te]
        exact others j hj hv
      · rw [shows.touched, List.exists_mem_cons_iff, or_comm, List.exists_mem_cons_iff]
        refine or_congr ?_ Iff.rfl
        simp [or_comm, or_and_right, exists_or]
    · have shows := h.apply_refused (s := s) absent opened full choice
      have report := refused_close (u := s.frameTaken (s.roster.storeTag n f.tag)) shows.refused (by rw [shows.te])
        (by rw [shows.te]; exact full)
      refine ⟨by rw [shows.te], by rw [shows.dirty, isEmpty_false_iff], shows.touched, shows.refused, report.1, report.2,
        shows.changed, shows.inserted, shows.removed⟩
  · have clearedIff (r : Record) : cleared r ↔ r ∈ clearedPeers own te := by
      rw [clearedPeers, mem_evictable, hcleared, hpeer, decide_eq_true_iff]
    have staleIff (r : Record) : stale r ↔ r ∈ stalePeers own te := by
      rw [stalePeers, mem_evictable, hstale, hpeer, decide_eq_true_iff]
    have liveIff (w : ViewState) (r : Record) : live w r ↔ r ∈ livePeers own severity te w := by
      rw [livePeers, mem_evictable, hlive, hpeer, isLive_iff]
    have low {v r : Record} (key : KeysAscend (te.cft.map (·.key)) → v.key.le r.key) : lowest v r := by
      rw [hlowest]
      exact key
    simp only [clearedIff, staleIff, liveIff]
    refine ⟨fun v choice => ⟨hpeer ▸ evictionChoice_peer choice, ?_⟩, ?_⟩
    · cases evictionChoice_step choice with
      | cleared h =>
        refine ⟨fun _ => ⟨leastRecord_mem h, fun r hr => ?_⟩, fun none => absurd (leastRecord_mem h) (none v)⟩
        exact (leastEvictable_least _ (earlier_iff _) h (mem_evictable.1 hr)).imp_right fun ⟨eq, key⟩ => ⟨eq, low key⟩
      | stale none h =>
        rw [none]
        refine ⟨fun ⟨r, hr⟩ => absurd hr List.not_mem_nil, fun _ => ⟨fun _ => ⟨leastRecord_mem h, fun r hr => ?_⟩,
          fun fresh => absurd (leastRecord_mem h) (fresh v)⟩⟩
        exact (leastEvictable_least _ (earlier_iff _) h (mem_evictable.1 hr)).imp_right fun ⟨eq, key⟩ => ⟨eq, low key⟩
      | held none fresh h =>
        rw [none, fresh]
        refine ⟨fun ⟨r, hr⟩ => absurd hr List.not_mem_nil, fun _ => ⟨fun ⟨r, hr⟩ => absurd hr List.not_mem_nil,
          fun _ => ⟨.held, leastRecord_mem h, .inl rfl, fun r hr => standing_cases ?_⟩⟩⟩
        exact (leastEvictable_least _ lesser_iff h (mem_evictable.1 hr)).imp_right fun ⟨eq, key⟩ => ⟨eq, low key⟩
      | active none fresh unheld h =>
        rw [none, fresh]
        refine ⟨fun ⟨r, hr⟩ => absurd hr List.not_mem_nil, fun _ => ⟨fun ⟨r, hr⟩ => absurd hr List.not_mem_nil,
          fun _ => ⟨.active, leastRecord_mem h, .inr ⟨rfl, fun r hr => ?_⟩, fun r hr => standing_cases ?_⟩⟩⟩
        · rw [unheld] at hr
          cases hr
        · exact (leastEvictable_least _ lesser_iff h (mem_evictable.1 hr)).imp_right fun ⟨eq, key⟩ => ⟨eq, low key⟩
    · simp only [evictionChoice_eq_none, List.eq_nil_iff_forall_not_mem, forall_and]

end Sys2Proof.Machine

/-!
PROOFS. A ROLL (R122 to R125): what its window makes of the roster and of the waiting lingers, and the records that its
sweep removes.
-/
namespace Sys2Proof.Machine

/-! ### A ROLL as read (R206, R208) -/

theorem readRoll_window {b : List Byte} {f : RollBody} (h : readRoll b = some f) : 60 ≤ f.window := by
  unfold readRoll at h
  split at h
  next within =>
    rw [Bool.and_eq_true, decide_eq_true_iff] at within
    split at h
    · cases h
      exact within.1
    · cases h
  next => cases h

/-- A ROLL announces a station record. -/
structure Announcement.OfStation (a : Announcement) : Prop where
  point : a.point = 0
  kind : a.kind = .station
  flapping : a.flapping = false
  group : a.group = 0
  parent : a.parent = none
  occurrences : a.occurrences = none

theorem readStationPart_ofStation {b : List Byte} {a : Announcement} (h : readStationPart b = some (some a)) :
    a.OfStation := by
  unfold readStationPart at h
  dsimp only at h
  split at h
  · cases h
  · split at h
    · split at h
      · cases h
        exact ⟨rfl, rfl, rfl, rfl, rfl, rfl⟩
      · cases h
    · cases h

theorem readRoll_ofStation {b : List Byte} {f : RollBody} (h : readRoll b = some f) {a : Announcement}
    (part : f.part = some a) : a.OfStation := by
  unfold readRoll at h
  split at h
  · split at h
    next p read =>
      cases h
      exact readStationPart_ofStation (read.trans (congrArg some part))
    · cases h
  · cases h

/-! ### The window in the roster (R113, R115, R122) -/

section Roster

variable {u : RosterUnit} {n : Nat} {e : RosterEntry} {W now window : Nat}

theorem RosterUnit.storeWindow_of_unknown (unknown : u.find n = none) : u.storeWindow W now n window = u := by
  simp only [RosterUnit.storeWindow, unknown]

theorem RosterUnit.storeWindow_of_same (known : u.find n = some e) (same : e.window = window) :
    u.storeWindow W now n window = u := by
  simp only [RosterUnit.storeWindow, known]
  exact if_pos same

/-- A new window that finds the sender overdue makes it SILENT (R113). -/
theorem RosterUnit.storeWindow_of_overdue (known : u.find n = some e) (other : e.window ≠ window)
    (overdue : ({ e with window := window } : RosterEntry).overdue W now = true) :
    u.storeWindow W now n window = (u.put { e with window := window }).silence { e with window := window } := by
  simp only [RosterUnit.storeWindow, known]
  rw [if_neg other, if_pos overdue]

theorem RosterUnit.storeWindow_of_running (known : u.find n = some e) (other : e.window ≠ window)
    (running : ({ e with window := window } : RosterEntry).overdue W now = false) :
    u.storeWindow W now n window = u.put { e with window := window } := by
  simp only [RosterUnit.storeWindow, known]
  rw [if_neg other, if_neg (by rw [running]; exact Bool.false_ne_true)]

/-- The new window makes the sender SILENT (R113, R122). -/
def RosterEntry.silencedBy (e : RosterEntry) (window now : Nat) : Bool :=
  decide (e.window ≠ window ∧ e.state = .present ∧ e.lastHeard + 3 * window ≤ now)

theorem RosterEntry.overdue_window (e : RosterEntry) (positive : 0 < window) :
    ({ e with window := window } : RosterEntry).overdue W now =
      decide (e.state = .present ∧ e.lastHeard + 3 * window ≤ now) := by
  rw [Bool.eq_iff_iff, RosterEntry.overdue_iff, decide_eq_true_iff]
  dsimp only
  rw [if_neg (Nat.ne_of_gt positive)]

/-- The roster after a ROLL's window: the sender's entry, every other station's, and the events. -/
theorem RosterUnit.find_storeWindow (positive : 0 < window) (known : u.find n = some e) (m : Nat) :
    (u.storeWindow W now n window).find m = if m = n then some { e with
      window := window, state := if e.silencedBy window now then .silent else e.state } else u.find m := by
  have station : e.station = n := RosterUnit.find_station known
  have overdue := e.overdue_window (W := W) (now := now) positive
  have written := RosterUnit.find_put_of_some known (e' := { e with window := window }) station
  by_cases same : e.window = window
  · rw [RosterUnit.storeWindow_of_same known same]
    have loud : e.silencedBy window now = false := decide_eq_false fun h => h.1 same
    rw [loud, ← same]
    split
    next eq => rw [eq, known]; rfl
    next => rfl
  · have silenced : e.silencedBy window now = ({ e with window := window } : RosterEntry).overdue W now := by
      rw [overdue, RosterEntry.silencedBy]
      exact decide_eq_decide.2 (and_iff_right same)
    rw [silenced]
    cases late : ({ e with window := window } : RosterEntry).overdue W now with
    | false =>
      rw [RosterUnit.storeWindow_of_running known same late, written]
      rfl
    | true =>
      have there := (written n).trans (if_pos rfl)
      rw [RosterUnit.storeWindow_of_overdue known same late, RosterUnit.find_silence there, written]
      split <;> rfl

theorem RosterUnit.storeWindow_events (positive : 0 < window) (known : u.find n = some e) :
    (u.storeWindow W now n window).events = if e.silencedBy window now = false then u.events
      else if n ∈ u.events.map (·.station) then u.events.filter (fun x => decide (x.station ≠ n))
      else u.events ++ [⟨n, .silent⟩] := by
  have station : e.station = n := RosterUnit.find_station known
  have overdue := e.overdue_window (W := W) (now := now) positive
  by_cases same : e.window = window
  · have loud : e.silencedBy window now = false := decide_eq_false fun h => h.1 same
    rw [RosterUnit.storeWindow_of_same known same, if_pos loud]
  · have silenced : e.silencedBy window now = ({ e with window := window } : RosterEntry).overdue W now := by
      rw [overdue, RosterEntry.silencedBy]
      exact decide_eq_decide.2 (and_iff_right same)
    rw [silenced]
    cases late : ({ e with window := window } : RosterEntry).overdue W now with
    | false =>
      rw [RosterUnit.storeWindow_of_running known same late]
      rfl
    | true =>
      rw [RosterUnit.storeWindow_of_overdue known same late, RosterUnit.silence_events, RosterUnit.put_events]
      dsimp only
      rw [station]
      exact (if_neg nofun).symm

/-- The windows that lingers of the sender go by, before and after the ROLL (R25). -/
theorem RosterUnit.windowOf_storeTag (u : RosterUnit) (n : Nat) (tag : Word16) (W : Nat) :
    (u.storeTag n tag).windowOf W n = u.windowOf W n := by
  cases known : u.find n with
  | none => rw [RosterUnit.storeTag_of_unknown known]
  | some e =>
    rw [RosterUnit.windowOf_of_known (RosterUnit.find_storeTag known tag), RosterUnit.windowOf_of_known known]
    rfl

theorem RosterUnit.windowOf_storeWindow (positive : 0 < window) (known : u.find n = some e) :
    (u.storeWindow W now n window).windowOf W n = window := by
  have found := (RosterUnit.find_storeWindow (W := W) (now := now) positive known n).trans (if_pos rfl)
  rw [RosterUnit.windowOf_of_known found]
  exact if_neg (Nat.ne_of_gt positive)

end Roster

/-- The roster after a ROLL (R115, R122). -/
def State.rolledRoster (s : State) (n : Nat) (f : RollBody) : RosterUnit :=
  (s.roster.storeTag n f.tag).storeWindow s.window s.nowSec n f.window

section Rolled

variable {s : State} {n : Nat} {f : RollBody} (positive : 0 < f.window)

theorem rolledRoster_of_unknown (unknown : s.roster.find n = none) : s.rolledRoster n f = s.roster := by
  rw [State.rolledRoster, RosterUnit.storeTag_of_unknown unknown, RosterUnit.storeWindow_of_unknown unknown]

include positive

theorem find_rolledRoster {e : RosterEntry} (known : s.roster.find n = some e) : (s.rolledRoster n f).find n = some { e with
    tag := some f.tag, window := f.window, state := if e.silencedBy f.window s.nowSec then .silent else e.state } :=
  (RosterUnit.find_storeWindow positive (RosterUnit.find_storeTag known f.tag) n).trans (if_pos rfl)

theorem find_rolledRoster_of_ne {m : Nat} (other : m ≠ n) : (s.rolledRoster n f).find m = s.roster.find m := by
  cases known : s.roster.find n with
  | none => rw [rolledRoster_of_unknown known]
  | some e =>
    exact (RosterUnit.find_storeWindow positive (RosterUnit.find_storeTag known f.tag) m).trans
      ((if_neg other).trans (RosterUnit.find_storeTag_of_ne _ _ other))

theorem rolledRoster_events {e : RosterEntry} (known : s.roster.find n = some e) : (s.rolledRoster n f).events =
    if e.silencedBy f.window s.nowSec = false then s.roster.events
    else if n ∈ s.roster.events.map (·.station) then s.roster.events.filter (fun x => decide (x.station ≠ n))
    else s.roster.events ++ [⟨n, .silent⟩] := by
  have events := RosterUnit.storeWindow_events (W := s.window) (now := s.nowSec) positive
    (RosterUnit.find_storeTag known f.tag)
  rw [RosterUnit.storeTag_events] at events
  exact events

/-- The sender's lingers are re-timed where its window was another one (R25). -/
theorem rolledRoster_retimes : (s.roster.storeTag n f.tag).windowOf s.window n ≠ (s.rolledRoster n f).windowOf s.window n ↔
    ∃ e, s.roster.find n = some e ∧ (if e.window = 0 then s.window else e.window) ≠ f.window := by
  rw [RosterUnit.windowOf_storeTag]
  cases known : s.roster.find n with
  | none => simp [rolledRoster_of_unknown known]
  | some e =>
    have after := RosterUnit.windowOf_storeWindow (W := s.window) (now := s.nowSec) positive
      (RosterUnit.find_storeTag known f.tag)
    rw [State.rolledRoster, after, RosterUnit.windowOf_of_known known]
    simp [RosterEntry.effective]

end Rolled

/-! ### The lingers that a window re-times (R25) -/

theorem mem_insertTimers (l m : List TimerClaim) (x : TimerClaim) :
    x ∈ l.foldl (fun l c => insertTimer c l) m ↔ x ∈ m ∨ x ∈ l := by
  induction l generalizing m with
  | nil => simp
  | cons c l ih => rw [List.foldl_cons, ih, mem_insertTimer, List.mem_cons, or_comm (a := x = c), or_assoc]

theorem mem_retimeLingers {W now n window : Nat} {u : RosterUnit} (effective : u.windowOf W n = window) (te : TableEngine)
    (x : TimerClaim) : x ∈ (retimeLingers W now n u te).timers ↔
      (x ∈ te.timers ∧ ∀ d j, x = .linger d j → j.origin ≠ n) ∨
      ∃ r ∈ te.cft, r.key.origin = n ∧ r.state = .cleared ∧ ∃ at', r.clearedAt = some at' ∧
        at' + window ≤ now ∧ x = .linger (at' + window) r.key := by
  rw [retimeLingers, mem_insertTimers, List.mem_filter, List.mem_filterMap]
  refine or_congr (and_congr_right fun _ => ?_) (exists_congr fun r => and_congr_right fun _ => ?_)
  · cases x <;> simp
  · by_cases origin : r.key.origin = n
    · rw [if_pos origin]
      cases deadline : lingerDeadline W u r with
      | none =>
        simp only [reduceCtorEq, false_iff]
        rintro ⟨-, cleared, at', stamp, -⟩
        rw [(lingerDeadline_eq_some ..).2 ⟨cleared, at', stamp, rfl⟩] at deadline
        cases deadline
      | some d =>
        obtain ⟨cleared, at', stamp, rfl⟩ := (lingerDeadline_eq_some ..).1 deadline
        rw [origin, effective]
        by_cases past : at' + window ≤ now <;> simp [past, cleared, stamp, eq_comm]
    · rw [if_neg origin]
      simp [origin]

end Sys2Proof.Machine

/-!
PROOFS. The claim of a ROLL (R117, R122 to R125): the wipe and the re-timed lingers, the sweep, then the station part or
the removal of the station record.
-/
namespace Sys2Proof.Machine

/-! ### The tables with the window stored (R25) -/

/-- The tables after a ROLL's window: the sender's lingers are re-timed where its window is another one. -/
def State.rolledTables (s : State) (n : Nat) (f : RollBody) (te : TableEngine) : TableEngine :=
  if (s.roster.storeTag n f.tag).windowOf s.window n = (s.rolledRoster n f).windowOf s.window n then te
  else retimeLingers s.window s.nowSec n (s.rolledRoster n f) te

section Tables

variable {s : State} {n : Nat} {f : RollBody} {te : TableEngine}

theorem rolledTables_eq : s.rolledTables n f te = { te with timers := (s.rolledTables n f te).timers } := by
  unfold State.rolledTables
  split <;> rfl

theorem rolledTables_of_not_retimed (positive : 0 < f.window)
    (same : ¬∃ e, s.roster.find n = some e ∧ (if e.window = 0 then s.window else e.window) ≠ f.window) :
    s.rolledTables n f te = te :=
  if_pos (not_not.1 (mt (rolledRoster_retimes positive).1 same))

theorem mem_rolledTables_timers (positive : 0 < f.window)
    (retimed : ∃ e, s.roster.find n = some e ∧ (if e.window = 0 then s.window else e.window) ≠ f.window) (x : TimerClaim) :
    x ∈ (s.rolledTables n f te).timers ↔ (x ∈ te.timers ∧ ∀ d j, x = .linger d j → j.origin ≠ n) ∨
      ∃ r ∈ te.cft, r.key.origin = n ∧ r.state = .cleared ∧ ∃ at', r.clearedAt = some at' ∧
        at' + f.window ≤ s.nowSec ∧ x = .linger (at' + f.window) r.key := by
  rw [State.rolledTables, if_neg ((rolledRoster_retimes positive).2 retimed)]
  obtain ⟨e, known, -⟩ := retimed
  exact mem_retimeLingers (RosterUnit.windowOf_storeWindow positive (RosterUnit.find_storeTag known f.tag)) te x

/-- Other expiries wait after the wipe. -/
theorem Work.Emptied.rolled {w : Work} {removed : List (Key × Report)} {lost : List Record} (h : w.Emptied te removed lost) :
    ({ w with te := s.rolledTables n f w.te } : Work).Emptied
      { te with timers := (s.rolledTables n f te).timers } removed lost := by
  obtain ⟨rfl, removed, changed, inserted, ascending, touched, ended, refused, dirty⟩ := h
  exact ⟨rolledTables_eq, removed, changed, inserted, ascending, touched, ended, refused, dirty⟩

theorem rollFrame_of_read {b : List Byte} (claim : s.nextClaim = some (.frame ⟨n, .roll, b⟩))
    (read : readRoll b = some f) : rollFrame s = (s.frameTaken (s.rolledRoster n f)).closeClaim
      (rollApply s n f { tagCheck s.roster n f.tag (Work.begin s.table) with
        te := s.rolledTables n f (tagCheck s.roster n f.tag (Work.begin s.table)).te }) [] := by
  simp only [rollFrame, claim, read]
  rfl

end Tables

/-! ### The sweep (R123) -/

/-- The sender's OPEN point records outside the open set. -/
def Record.outside (n : Nat) (openSet : List Nat) (r : Record) : Bool :=
  decide (r.key.origin = n ∧ 1 ≤ r.key.point ∧ r.state = .opened ∧ r.key.point ∉ openSet)

theorem sweptKeys_eq (cft : List Record) (n : Nat) (openSet : List Nat) :
    sweptKeys cft n openSet = (cft.filter (Record.outside n openSet)).map (·.key) := by
  rw [sweptKeys, recordsOf, List.filter_filter]
  refine congrArg (List.map _) (List.filter_congr fun r _ => ?_)
  rw [Bool.eq_iff_iff]
  simp [Record.outside, and_assoc, and_comm, and_left_comm]

theorem Work.Emptied.swept {w : Work} {te : TableEngine} {removed : List (Key × Report)} {lost : List Record}
    (h : w.Emptied te removed lost) (distinct : KeysDistinct te.cft) (n : Nat) (openSet : List Nat) :
    (w.deleteAll (sweptKeys w.te.cft n openSet) .sweep).Emptied
      { te with cft := te.cft.filter (fun r => !r.outside n openSet) }
      (removed ++ (te.cft.filter (Record.outside n openSet)).map (removalOf te.groups .sweep))
      (lost ++ te.cft.filter (Record.outside n openSet)) := by
  rw [sweptKeys_eq, h.te]
  exact h.deleteWhere distinct _ .sweep

/-! ### What a station part marks -/

section Station

variable {w : Work} {te : TableEngine} {removed : List (Key × Report)} {lost : List Record} {s : State} {n : Nat}
  {a : Announcement}

/-- The record that a station part evicts (R21, R22). -/
def stationEvicts (s : State) (k : Key) (part : Option Announcement) (te : TableEngine) (v : Record) : Prop :=
  959 ≤ peerCount s.own te.cft ∧ ∃ a, part = some a ∧ findRecord te.cft k = none ∧ a.state = .opened ∧
    evictionChoice s.own te (severityOf a.conds) = some v

/-- What a station part, or its absence, leaves of the table's mark and of the touched groups: the record that it brings is
of no group. -/
structure StationMarks (s : State) (k : Key) (part : Option Announcement) (te : TableEngine) (lost : List Record)
    (w : Work) : Prop where
  dirty : w.dirty = true ↔ lost ≠ [] ∨ (∃ v, stationEvicts s k part te v) ∨
    (part = none ∧ findRecord te.cft k ≠ none) ∨
    ∃ a, part = some a ∧ ((findRecord te.cft k = none ∧ a.state = .opened ∧ peerCount s.own te.cft < 959) ∨
      ∃ r, findRecord te.cft k = some r ∧ judgeVersion a.version r.version ≠ .older)
  touched : ∀ g, g ∈ w.touched ↔ ∃ r, r.kind = .supply ∧ r.group = g ∧ (r ∈ lost ∨ stationEvicts s k part te r ∨
    (findRecord te.cft k = some r ∧ ∀ a, part = some a → judgeVersion a.version r.version = .newer))

theorem Announcement.inserted_kind (a : Announcement) (s : State) (n : Nat) : (a.inserted s n).kind = a.kind := rfl

theorem Announcement.replaced_kind (a : Announcement) (s : State) (r : Record) : (a.replaced s r).kind = a.kind := rfl

/-- The groups that a claim touched, by what its supply records come to. -/
theorem Work.Shows.mem_touched {changed inserted : List Key} {met : List Record} {refused dirty : Bool}
    (h : w.Shows te removed changed inserted met refused dirty) {p : Record → Prop}
    (supply : ∀ r, r.kind = .supply → (r ∈ met ↔ p r)) (g : Nat) :
    g ∈ w.touched ↔ ∃ r, r.kind = .supply ∧ r.group = g ∧ p r := by
  rw [h.touched]
  refine exists_congr fun r => ?_
  rw [and_comm, and_assoc]
  exact and_congr_right fun kind => and_congr_right fun _ => supply r kind

theorem stationMarks_apply (h : w.Emptied te removed lost) (distinct : KeysDistinct te.cft) (station : a.kind = .station) :
    StationMarks s ⟨n, a.point⟩ (some a) te lost (w.apply s n a) := by
  have own {r x : Record} (supply : r.kind = .supply) (kind : x.kind = a.kind) : r ≠ x := by
    rintro rfl
    rw [supply, station] at kind
    cases kind
  have unmet {r x : Record} {j : VersionJudgement} (version : judgeVersion a.version r.version = j) (other : j ≠ .newer) :
      ¬(r = x ∧ judgeVersion a.version x.version = .newer) := by
    rintro ⟨rfl, newer⟩
    exact other (version.symm.trans newer)
  cases held : findRecord te.cft ⟨n, a.point⟩ with
  | none =>
    cases st : a.state with
    | cleared =>
      have shows := h.apply_moot (s := s) held st
      refine ⟨?_, shows.mem_touched fun r _ => ?_⟩
      · rw [shows.dirty, isEmpty_false_iff]
        simp [stationEvicts, held, st]
      · simp [stationEvicts, held, st]
    | opened =>
      rcases Nat.lt_or_ge (peerCount s.own te.cft) 959 with room | full
      · have shows := h.apply_placed held st room
        refine ⟨?_, shows.mem_touched fun r supply => ?_⟩
        · rw [shows.dirty]
          simp [held, st, room]
        · simp [stationEvicts, held, Nat.not_le.2 room, own supply (Announcement.inserted_kind ..)]
      · cases choice : evictionChoice s.own te (severityOf a.conds) with
        | none =>
          have shows := h.apply_refused held st full choice
          refine ⟨?_, shows.mem_touched fun r _ => ?_⟩
          · rw [shows.dirty, isEmpty_false_iff]
            simp [stationEvicts, held, choice, Nat.not_lt.2 full]
          · simp [stationEvicts, held, choice]
        | some v =>
          have shows := h.apply_evicts held st full distinct choice
          refine ⟨?_, shows.mem_touched fun r supply => ?_⟩
          · rw [shows.dirty]
            simp [stationEvicts, held, st, choice, full]
          · simp [stationEvicts, held, st, choice, full, own supply (Announcement.inserted_kind ..),
              eq_comm (a := v)]
  | some r =>
    cases version : judgeVersion a.version r.version with
    | newer =>
      have shows := h.apply_newer (s := s) held version
      refine ⟨?_, shows.mem_touched fun x supply => ?_⟩
      · rw [shows.dirty]
        simp [held, version]
      · have met : x = r ↔ r = x ∧ judgeVersion a.version x.version = .newer :=
          ⟨fun eq => ⟨eq.symm, eq ▸ version⟩, fun eq => eq.1.symm⟩
        simp [stationEvicts, held, met, own supply (Announcement.replaced_kind ..), or_comm]
    | same =>
      have shows := h.apply_same (s := s) held version
      refine ⟨?_, shows.mem_touched fun x _ => ?_⟩
      · rw [shows.dirty]
        simp [held, version]
      · simp [stationEvicts, held, unmet (x := x) version nofun]
    | older =>
      have shows := h.apply_older (s := s) held version
      refine ⟨?_, shows.mem_touched fun x _ => ?_⟩
      · rw [shows.dirty, isEmpty_false_iff]
        simp [stationEvicts, held, version]
      · simp [stationEvicts, held, unmet (x := x) version nofun]

/-- The station record goes where no part is carried (R125). -/
theorem stationMarks_delete (h : w.Emptied te removed lost) (k : Key) :
    StationMarks s k none te lost (w.delete k .sweep) := by
  cases held : findRecord te.cft k with
  | none =>
    have shows := h.delete_absent held .sweep
    refine ⟨?_, shows.mem_touched fun r _ => ?_⟩
    · rw [shows.dirty, isEmpty_false_iff]
      simp [stationEvicts, held]
    · simp [stationEvicts, held]
  | some r =>
    obtain ⟨rfl, -⟩ := findRecord_some held
    have shows := h.delete_held held .sweep
    refine ⟨?_, shows.mem_touched fun x _ => ?_⟩
    · rw [shows.dirty]
      simp [held]
    · simp [stationEvicts, held, eq_comm (a := r)]

/-! ### The station part of a ROLL (R124, R125) -/

/-- What a ROLL does with the station record after its sweep. -/
def State.stationPart (s : State) (n : Nat) (w : Work) : Option Announcement → Work
  | some a => w.apply s n a
  | none => w.delete ⟨n, 0⟩ .sweep

theorem Work.delete_te (w : Work) (k : Key) (c : DeleteCause) : (w.delete k c).te = { w.te with
    cft := (w.delete k c).te.cft } := by
  unfold Work.delete
  split <;> rfl

theorem Work.apply_timers (w : Work) : (w.apply s n a).te.timers = w.te.timers := by
  unfold Work.apply
  split
  · split
    · unfold Work.insertPeer
      split
      · rfl
      · split
        · exact congrArg (·.timers) (w.delete_te ..)
        · rfl
    · rfl
  · split <;> rfl

theorem stationPart_timers (w : Work) (part : Option Announcement) :
    (s.stationPart n w part).te.timers = w.te.timers := by
  cases part with
  | some a => exact w.apply_timers
  | none => exact congrArg (·.timers) (w.delete_te ..)

theorem stationPart_shows (h : w.Emptied te removed lost) (distinct : KeysDistinct te.cft) (part : Option Announcement) :
    ∃ te' removed' changed inserted met refused dirty,
      (s.stationPart n w part).Shows te' removed' changed inserted met refused dirty := by
  cases part with
  | some a => exact h.apply_shows distinct
  | none =>
    cases held : findRecord te.cft ⟨n, 0⟩ with
    | none => exact ⟨_, _, _, _, _, _, _, h.delete_absent held .sweep⟩
    | some r =>
      obtain ⟨key, -⟩ := findRecord_some held
      exact ⟨_, _, _, _, _, _, _, key ▸ h.delete_held (key ▸ held) .sweep⟩

theorem stationMarks_stationPart (h : w.Emptied te removed lost) (distinct : KeysDistinct te.cft)
    {part : Option Announcement} (station : ∀ a, part = some a → a.OfStation) :
    StationMarks s ⟨n, 0⟩ part te lost (s.stationPart n w part) := by
  cases part with
  | none => exact stationMarks_delete h ⟨n, 0⟩
  | some a =>
    obtain ⟨point, kind, -⟩ := station a rfl
    rw [← point]
    exact stationMarks_apply h distinct kind

end Station

/-- The work of a ROLL: its deletes with the lingers re-timed, then the station part. -/
theorem rollFrame_works {s : State} {n : Nat} {b : List Byte} {f : RollBody} {wiped : Bool} {gone kept : List Record}
    (claim : s.nextClaim = some (.frame ⟨n, .roll, b⟩)) (read : readRoll b = some f) (distinct : KeysDistinct s.table.cft)
    (retags : wiped = true ↔ s.roster.retags n f.tag)
    (hgone : gone = if wiped then s.table.cft.filter (fun r => decide (r.key.origin = n)) else [])
    (hkept : kept = if wiped then s.table.cft.filter (fun r => decide (r.key.origin ≠ n)) else s.table.cft) :
    ∃ w, rollFrame s = (s.frameTaken (s.rolledRoster n f)).closeClaim (s.stationPart n w f.part) [] ∧
      KeysDistinct kept ∧ w.Emptied
      { s.table with
        cft := kept.filter (fun r => !r.outside n f.openSet)
        timers := (s.rolledTables n f { s.table with cft := kept }).timers }
      (gone.map (removalOf s.table.groups .wipe) ++
        (kept.filter (Record.outside n f.openSet)).map (removalOf s.table.groups .sweep))
      (gone ++ kept.filter (Record.outside n f.openSet)) := by
  have distinctKept : KeysDistinct kept := by
    rw [hkept]
    split
    · exact KeysDistinct.filter distinct _
    · exact distinct
  have wipe := tagCheck_emptied distinct retags hgone hkept
  have rolled := Work.Emptied.rolled (s := s) (n := n) (f := f) wipe
  exact ⟨_, rollFrame_of_read claim read, distinctKept, Work.Emptied.swept rolled distinctKept n f.openSet⟩

/-- The record that an OPEN station part inserts (R124). -/
theorem Announcement.OfStation.inserted {a : Announcement} (h : a.OfStation) (opened : a.state = .opened) (s : State) (n : Nat) :
    a.inserted s n =
    { key := ⟨n, a.point⟩, kind := .station, conds := a.conds, state := .opened, flapping := false, group := 0
      parent := none, version := a.version, raisedAt := s.raisedAt a.age, occurrences := 1, ackMark := a.ack
      lastHeard := some s.nowSec, freshness := .fresh, clearedAt := none } := by
  rw [Announcement.inserted_opened opened, h.kind, h.flapping, h.group, h.parent, h.occurrences]
  rfl

/-- The station record that a newer version leaves keeps its occurrences (R124). -/
theorem Announcement.OfStation.renewed {a : Announcement} (h : a.OfStation) (s : State) (r : Record) : a.renewed s r =
    { key := r.key, kind := .station, conds := a.conds, state := a.state, flapping := false, group := 0
      parent := none, version := a.version, raisedAt := s.raisedAt a.age, occurrences := r.occurrences, ackMark := a.ack
      lastHeard := some s.nowSec, freshness := .fresh
      clearedAt := if a.state = .cleared then some s.nowSec else none } := by
  rw [Announcement.renewed_eq, h.kind, h.flapping, h.group, h.parent, h.occurrences]
  rfl

/-- Settles O31: the wipe, the re-timed lingers and the sweep, then the station part by its key and its version. -/
theorem rollIsApplied : Obligations.RollIsApplied := by
  rintro n b f s k wiped outside gone kept swept left removed evicts claim read rfl distinct hwiped hgone hkept rfl hswept
    hleft hremoved rfl
  have positive : 0 < f.window := Nat.lt_of_lt_of_le (by decide) (readRoll_window read)
  have retags : wiped = true ↔ s.roster.retags n f.tag := by rw [hwiped, decide_eq_true_iff]; rfl
  obtain ⟨w, frame, distinctKept, h⟩ := rollFrame_works claim read distinct retags hgone hkept
  have distinctLeft : KeysDistinct left := hleft ▸ KeysDistinct.filter distinctKept _
  generalize hT : (s.rolledTables n f { s.table with cft := kept }).timers = T at h
  have timers : (s.stationPart n w f.part).te.timers = T := (stationPart_timers w f.part).trans (by rw [h.te])
  replace h : w.Emptied { s.table with cft := left, timers := T } removed (gone ++ swept) := by
    rw [hleft, hremoved, hswept]
    exact h
  obtain ⟨te', removed', changed', inserted', met', refused', dirty', shown⟩ :=
    stationPart_shows (s := s) (n := n) h distinctLeft f.part
  have marks := stationMarks_stationPart (s := s) (n := n) h distinctLeft fun a part => readRoll_ofStation read part
  refine ⟨s.stationPart n w f.part, _, _, exec_yields rfl frame, rfl, State.closeClaim_cft .., shown.ended, rfl,
    fun m other => find_rolledRoster_of_ne positive other, rolledRoster_of_unknown, fun e silenced known hsilenced => ?_,
    fun retimed hretimed => ?_, fun part => ?_, fun a part => ?_, ?_, shown.ascending, fun g => ?_⟩
  · subst hsilenced
    exact ⟨find_rolledRoster positive known, rolledRoster_events positive known⟩
  · rw [timers, ← hT]
    subst hretimed
    refine ⟨fun same => ?_, fun other => mem_rolledTables_timers positive (of_decide_eq_true other)⟩
    rw [rolledTables_of_not_retimed positive (of_decide_eq_false same)]
  · rw [part]
    cases held : findRecord left ⟨n, 0⟩ with
    | none =>
      have shows := Work.Emptied.delete_absent h held .sweep
      refine ⟨?_, fun j _ => ?_, ?_, shows.changed, shows.inserted, shows.refused, shows.removed.trans (by simp)⟩
      all_goals rw [State.stationPart, shows.te]
      exact held
    | some r =>
      obtain ⟨key, -⟩ := findRecord_some held
      have shows := Work.Emptied.delete_held h (key ▸ held) .sweep
      rw [key] at shows
      refine ⟨?_, fun j other => ?_, ?_, shows.changed, shows.inserted, shows.refused, ?_⟩
      · rw [State.stationPart, shows.te]
        exact (findRecord_erase ..).trans (if_pos rfl)
      · rw [State.stationPart, shows.te]
        exact (findRecord_erase ..).trans (if_neg other)
      · rw [State.stationPart, shows.te]
      · rw [State.stationPart, shows.removed, removalOf, key]
  · have station := readRoll_ofStation read part
    have key : (⟨n, 0⟩ : Key) = ⟨n, a.point⟩ := by rw [station.point]
    rw [part, key, State.stationPart]
    refine ⟨fun absent cleared => ?_, fun new absent opened hnew => ⟨fun room => ?_, fun v full choice => ?_,
      fun full choice => ?_⟩, fun r held => ?_⟩
    · have shows := h.apply_moot (s := s) absent cleared
      exact ⟨by rw [shows.te], shows.changed, shows.inserted, shows.removed, shows.refused⟩
    · have shows := h.apply_placed absent opened room
      refine ⟨by rw [shows.te], ?_, fun j hj => ?_, shows.changed, shows.inserted, shows.removed, shows.refused⟩
      all_goals rw [shows.te]
      · rw [hnew, ← station.inserted opened]
        exact findRecord_inserted absent
      · exact findRecord_inserted_of_ne hj
    · have shows := h.apply_evicts absent opened full distinctLeft choice
      obtain ⟨gone', stands, others⟩ := findRecord_evicted (s := s) (a := a) absent (evictionChoice_peer choice).1
      refine ⟨?_, ?_, fun j hj hv => ?_, by rw [shows.te], shows.changed, shows.inserted, shows.refused, shows.removed⟩
      all_goals rw [shows.te]
      · exact gone'
      · rw [hnew, ← station.inserted opened]
        exact stands
      · exact others j hj hv
    · have shows := h.apply_refused absent opened full choice
      have report := refused_close (u := s.frameTaken (s.rolledRoster n f)) shows.refused (by rw [shows.te])
        (by rw [shows.te]; exact full)
      exact ⟨by rw [shows.te], shows.refused, report.1, report.2, shows.changed, shows.inserted, shows.removed⟩
    · obtain ⟨key, -⟩ := findRecord_some held
      have held' : findRecord left r.key = some r := by rwa [key]
      cases version : judgeVersion a.version r.version with
      | newer =>
        have shows := h.apply_newer (s := s) held version
        refine ⟨fun j hj => ?_, shows.inserted, shows.removed, shows.refused, fun _ => by rw [shows.te],
          fun _ => ⟨shows.changed, ?_⟩, nofun, nofun⟩
        all_goals rw [shows.te]
        · exact findRecord_renewed_of_ne (key ▸ hj)
        · rw [← key, ← station.renewed]
          exact findRecord_renewed held'
      | same =>
        have shows := h.apply_same (s := s) held version
        refine ⟨fun j hj => ?_, shows.inserted, shows.removed, shows.refused, fun _ => by rw [shows.te], nofun,
          fun _ => ⟨shows.changed, ?_⟩, nofun⟩
        all_goals rw [shows.te]
        · exact findRecord_refreshed_of_ne (key ▸ hj)
        · rw [← key]
          exact findRecord_refreshed held'
      | older =>
        have shows := h.apply_older (s := s) held version
        refine ⟨fun j hj => by rw [shows.te], shows.inserted, shows.removed, shows.refused, fun other => absurd rfl other,
          nofun, nofun, fun _ => ⟨by rw [shows.te], shows.changed⟩⟩
  · rw [marks.dirty, ne_eq, List.append_eq_nil_iff, not_and_or]
    exact or_assoc
  · rw [marks.touched]
    simp only [List.mem_append, or_assoc]
    exact Iff.rfl

end Sys2Proof.Machine
